-- ==== Sys2Proof/Word.lean ====
section
/-! DEFINITION. The two word types of the machine: 8-bit data and 16-bit addresses (00_scope.md R5). -/

namespace Sys2Proof

/-- Data: 8 bits (R5). -/
abbrev Byte := BitVec 8

/-- Addresses: "address type is exactly 16 bits" (R5). -/
abbrev Word := BitVec 16

end Sys2Proof
end

