-- ==== Sys2Proof/Machine/Bits.lean ====
section
/-! DEFINITION. The notation of 00_scope.md R7: halves of a word, concatenation, extensions, and the
page comparison of 40_addressing_modes.md R89. -/

namespace Sys2Proof.Machine

/-- `hi(w)` = `w[15:8]`. -/
def hiByte (w : Word) : Byte := w.extractLsb' 8 8

/-- `lo(w)` = `w[7:0]`. -/
def loByte (w : Word) : Byte := w.extractLsb' 0 8

/-- `{h, l}` = `h * 256 + l`. -/
def wordOf (h l : Byte) : Word := h ++ l

/-- `zext_16(b)`: a zero high byte. -/
def zext16 (b : Byte) : Word := b.setWidth 16

/-- `sext_8(b)` as a 16-bit addend: the byte read as two's complement. -/
def sext16 (b : Byte) : Word := b.signExtend 16

/-- `((base ^ ea) >> 8) != 0`: the two addresses lie in different pages (R89, R90, R93, R94). -/
def pageCrossed (base ea : Word) : Bool := ((base ^^^ ea) >>> 8) != 0

end Sys2Proof.Machine
end

