-- ==== Sys2Proof/Config.lean ====
section
/-! DEFINITION. The values the spec leaves open: the decimal results, and what the registers hold before the
first reset. The configuration record of 00_scope.md R6 is `Params` in Machine/Params.lean. -/

namespace Sys2Proof

/-- What `dec_adc` and `dec_sbc` deliver: `(A', N', V', Z', C')` (43_logic_arith.md R139). -/
structure DecimalResult where
  a : Byte
  n : Bool
  v : Bool
  z : Bool
  c : Bool
deriving DecidableEq, Repr, Inhabited

/-- `dec_adc(A, M, C)` of the parameter `DECIMAL`: a total function of these three inputs alone, left
open by R139 (decision D4). No body, so every theorem holds for every `DECIMAL`. Log entry 2, safe. -/
opaque Config.decAdc : Byte → Byte → Bool → DecimalResult

/-- `dec_sbc(A, M, C)` of the parameter `DECIMAL` (R139, decision D4). Log entry 2, safe. -/
opaque Config.decSbc : Byte → Byte → Bool → DecimalResult

/-- What a byte-sized register holds before the first `reset`: nothing the spec names (10_state.md R29, decision
D27: "it must not choose zero"). No body, so nothing can be proved from it. Log entry 5, safe. -/
opaque Config.unsetByte : Nat → Byte

/-- What `PC` holds before the first `reset` (R29). Log entry 5, safe. -/
opaque Config.unsetWord : Word

/-- What a flag holds before the first `reset` (R29). Log entry 5, safe. -/
opaque Config.unsetFlag : Nat → Bool

/-- What `cycles` holds before the first `reset` (R29). Log entry 5, safe. -/
opaque Config.unsetCycles : Nat

end Sys2Proof
end

