-- ==== Sys2Proof/Machine/State.lean ====
section
/-! DEFINITION. The state of the machine (10_state.md, 20_memory.md R40), all of it and nothing else (R22),
the reasons a step can stop, and the state after reset. -/

namespace Sys2Proof.Machine

/-- The status register `P`: "7 independent boolean flags" (R14). There is no stored bit 5. -/
structure Status where
  n : Bool
  v : Bool
  b : Bool
  d : Bool
  i : Bool
  z : Bool
  c : Bool
deriving DecidableEq, Repr

/-- The lifecycle states (R21). -/
inductive Life where
  | uninitialized | ready | running | faulted
deriving DecidableEq, Repr

/-- Memory as (address, byte) pairs in canonical form; what an unlisted address reads as, and the form,
are in Machine/Memory.lean. -/
abbrev Memory := List Host.Cell

/-- The architectural state: registers (R10 to R13), flags (R14), the cycle counter (R19), the lifecycle
state (R21) and the memory (R40). -/
structure State where
  a : Byte
  x : Byte
  y : Byte
  sp : Byte
  pc : Word
  p : Status
  cycles : Nat
  life : Life
  mem : Memory
deriving DecidableEq, Repr

/-- The two synchronous faults (60_exceptions.md R210). -/
inductive Fault where
  /-- `UnknownOpcode{opcode, address}` (R211): raised by `step` when the byte at `PC` has no row in the
  active table (30_encoding.md R68); `address` is where it was fetched. The spec's own outcome: safe. -/
  | unknownOpcode (opcode : Byte) (address : Word)
  /-- `InvalidAddressingModeUse` (R212): raised by a malformed table row or by the operand helpers of
  R99 on an operand without an address; unreachable with the base table (R95). Safe. -/
  | invalidAddressingModeUse
deriving DecidableEq, Repr

/-- The refusals (60_exceptions.md R214), which change no state. -/
inductive Refusal where
  /-- An instruction without a meaning in this model: no arm of `exec` answers it. Safe. -/
  | notModelled (mnemonic : String)
  /-- `step`, an interrupt or an accessor before the first `reset` (R214 a). The spec's own: safe. -/
  | uninitialized
  /-- `step` or an interrupt after a fault, before a `reset` (R214 b, decision D16). Safe. -/
  | faulted
deriving DecidableEq, Repr

/-- What an operation of the machine answers. -/
abbrev Result := Host.Outcome State Fault Refusal

/-- The machine right after `reset()` (R28, 70_reset_and_hazards.md R240), over the zero-initialised memory
of R40: the reset vector reads $0000 (95_test_vectors.md RST1). Log entry 1 for the launch memory. -/
def State.reset : State where
  a := 0x00
  x := 0x00
  y := 0x00
  sp := 0xFF
  pc := 0x0000
  p := { n := false, v := false, b := false, d := false, i := false, z := false, c := false }
  cycles := 8
  life := .ready
  mem := []

/-- The machine at creation: memory zero-filled, `life` = Uninitialized (60_exceptions.md R233). Its registers,
flags and `cycles` hold no value by 10_state.md R29: the fields are opaque constants, of which nothing can be
proved, and every operation and accessor but `reset` is refused. Log entry 5. -/
def State.created : State where
  a := Config.unsetByte 0
  x := Config.unsetByte 1
  y := Config.unsetByte 2
  sp := Config.unsetByte 3
  pc := Config.unsetWord
  p := {
    n := Config.unsetFlag 7, v := Config.unsetFlag 6, b := Config.unsetFlag 4, d := Config.unsetFlag 3
    i := Config.unsetFlag 2, z := Config.unsetFlag 1, c := Config.unsetFlag 0 }
  cycles := Config.unsetCycles
  life := .uninitialized
  mem := []

end Sys2Proof.Machine
end

