-- ==== Sys2Proof/Machine/Flags.lean ====
section
/-! DEFINITION. The status flag unit and the ALU: every flag computation and every 8-bit function of the
instruction rules (10_state.md R16 to R18, 43_logic_arith.md, 44_incdec_shift.md). -/

namespace Sys2Proof.Machine

/-- `setNZ(v)` (R18). -/
def setNZ (p : Status) (v : Byte) : Status := { p with n := v.getLsbD 7, z := v == 0 }

/-- A flag as its bit, `f << k`. -/
def flagBit (f : Bool) (k : Nat) : Byte := if f then 1#8 <<< k else 0#8

/-- `P_byte(b)` = {N, V, 1, b, D, I, Z, C} (R16). -/
def pByte (p : Status) (b : Bool) : Byte :=
  flagBit p.n 7 ||| flagBit p.v 6 ||| flagBit true 5 ||| flagBit b 4 |||
    flagBit p.d 3 ||| flagBit p.i 2 ||| flagBit p.z 1 ||| flagBit p.c 0

/-- `P_load(v)`: bits 5 and 4 are discarded, `P.B` is unchanged (R17). -/
def pLoad (p : Status) (v : Byte) : Status :=
  { p with
    n := v.getLsbD 7, v := v.getLsbD 6, d := v.getLsbD 3
    i := v.getLsbD 2, z := v.getLsbD 1, c := v.getLsbD 0 }

/-- Carry in as an integer. -/
def carryNat (c : Bool) : Nat := if c then 1 else 0

/-- The integer sum `a + m + C`, 0..511 (R134). -/
def adcSum (a m : Byte) (c : Bool) : Nat := a.toNat + m.toNat + carryNat c

/-- The V rule of R134 and R135: `((a ^ r) & (m ^ r) & $80) != 0`. -/
def overflow (a m r : Byte) : Bool := ((a ^^^ r) &&& (m ^^^ r) &&& 0x80) != 0

/-- The binary branch of ADC (R134): the stored result and the flags. -/
def adcBinary (a m : Byte) (p : Status) : Byte × Status :=
  let s := adcSum a m p.c
  let r := BitVec.ofNat 8 s
  (r, setNZ { p with c := decide (s > 255), v := overflow a m r } r)

/-- The binary branch of SBC is ADC of the complemented operand (R135). -/
def sbcBinary (a m : Byte) (p : Status) : Byte × Status := adcBinary a (m ^^^ 0xFF) p

/-- A decimal result written to the flags N, V, Z, C (R134, R135, R139). -/
def decimalFlags (p : Status) (r : DecimalResult) : Status := { p with n := r.n, v := r.v, z := r.z, c := r.c }

/-- ADC: binary while D = 0, `dec_adc` of the parameter `DECIMAL` while D = 1 (R134). -/
def adcWith (dec : Byte → Byte → Bool → DecimalResult) (a m : Byte) (p : Status) : Byte × Status :=
  if p.d then ((dec a m p.c).a, decimalFlags p (dec a m p.c)) else adcBinary a m p

/-- SBC: binary while D = 0, `dec_sbc` of the parameter `DECIMAL` while D = 1 (R135). -/
def sbcWith (dec : Byte → Byte → Bool → DecimalResult) (a m : Byte) (p : Status) : Byte × Status :=
  if p.d then ((dec a m p.c).a, decimalFlags p (dec a m p.c)) else sbcBinary a m p

/-- ADC and SBC with the open `DECIMAL` (R139, decision D4). -/
def adc (a m : Byte) (p : Status) : Byte × Status := adcWith Config.decAdc a m p
def sbc (a m : Byte) (p : Status) : Byte × Status := sbcWith Config.decSbc a m p

/-- The flags of CMP, CPX and CPY (R136 to R138): register minus memory, unsigned comparison. -/
def compareFlags (reg m : Byte) (p : Status) : Status :=
  let d := reg - m
  { p with c := decide (m.toNat ≤ reg.toNat), z := reg == m, n := d.getLsbD 7 }

/-- The flags of BIT (R133). -/
def bitTest (a m : Byte) (p : Status) : Status :=
  { p with z := (a &&& m) == 0, n := m.getLsbD 7, v := m.getLsbD 6 }

/-- The shift functions deliver the result and the bit shifted out. ASL (R156). -/
def asl (m : Byte) (_ : Bool) : Byte × Bool := (m <<< 1, m.getLsbD 7)

/-- LSR (R157). -/
def lsr (m : Byte) (_ : Bool) : Byte × Bool := (m >>> 1, m.getLsbD 0)

/-- ROL (R158): the old carry becomes bit 0. -/
def rol (m : Byte) (cin : Bool) : Byte × Bool := ((m <<< 1) ||| flagBit cin 0, m.getLsbD 7)

/-- ROR (R159): the old carry becomes bit 7. -/
def ror (m : Byte) (cin : Bool) : Byte × Bool := ((m >>> 1) ||| flagBit cin 7, m.getLsbD 0)

/-- The flags after a shift or rotate: `P.C <- c`, `setNZ(r)` (44_incdec_shift.md section 3). -/
def shiftFlags (p : Status) (r : Byte) (c : Bool) : Status := setNZ { p with c := c } r

end Sys2Proof.Machine
end

