-- ==== Sys2Proof/Machine/Memory.lean ====
section
/-! DEFINITION. The memory (20_memory.md R40 to R42): what an unlisted address reads as, reading, writing,
and the canonical form every write keeps. -/

namespace Sys2Proof.Machine

/-- What an address reads as that nothing has written: the memory is "zero-initialized" (R40). -/
def unlistedByte : Byte := 0x00

/-- `read(address)`: the byte last written at the address, or its initial value (R41). -/
def memRead : Memory → Nat → Byte
  | [], _ => unlistedByte
  | (k, b) :: m, a => if a = k then b else memRead m a

/-- A memory without the cells of one address. -/
def eraseCell : Memory → Nat → Memory
  | [], _ => []
  | (k, b) :: m, a => if a = k then eraseCell m a else (k, b) :: eraseCell m a

/-- A cell put before the first that lies at a higher address. -/
def insertCell : Memory → Nat → Byte → Memory
  | [], a, v => [(a, v)]
  | (k, b) :: m, a, v => if a < k then (a, v) :: (k, b) :: m else (k, b) :: insertCell m a v

/-- `write(address, value)`: replaces that byte and changes nothing else (R42), in canonical form: the value
an unlisted address reads as is not listed. -/
def memWrite (m : Memory) (a : Nat) (v : Byte) : Memory :=
  if v = unlistedByte then eraseCell m a else insertCell (eraseCell m a) a v

/-- The addresses rise strictly from above `lo`, lie in the address space, and no cell is listed that
holds what an unlisted address reads as. -/
def wfFrom : Nat → Memory → Bool
  | _, [] => true
  | lo, (k, b) :: m => decide (lo ≤ k) && decide (k < 65536) && decide (b ≠ unlistedByte) && wfFrom (k + 1) m

/-- The canonical form of a memory of 65,536 bytes (R40). -/
def Memory.wf (m : Memory) : Bool := wfFrom 0 m

end Sys2Proof.Machine
end

