-- ==== Sys2Proof/Machine/Ops.lean ====
section
/-! DEFINITION. The named operations over registers and memory: register writes, the memory port, the stack,
the fetch primitive, taking an exception and returning from one, and reset. -/

namespace Sys2Proof.Machine

/-- The vectors, the stack page and the startup constant (00_scope.md R5). -/
def nmiVector : Word := 0xFFFA
def resetVector : Word := 0xFFFC
def irqVector : Word := 0xFFFE
def stackBase : Word := 0x0100
def startupCycles : Nat := 8

/-- Register writes, `r <- v` (00_scope.md R8). -/
def State.setA (s : State) (v : Byte) : State := { s with a := v }
def State.setX (s : State) (v : Byte) : State := { s with x := v }
def State.setY (s : State) (v : Byte) : State := { s with y := v }
def State.setSp (s : State) (v : Byte) : State := { s with sp := v }
def State.setPc (s : State) (v : Word) : State := { s with pc := v }
def State.setP (s : State) (v : Status) : State := { s with p := v }
def State.setLife (s : State) (v : Life) : State := { s with life := v }
def State.setMem (s : State) (m : Memory) : State := { s with mem := m }

/-- `tick(n)`: `cycles <- cycles + n` (10_state.md R19). -/
def tick (n : Nat) (s : State) : State := { s with cycles := s.cycles + n }

/-- `MemRead(addr, 1)` (20_memory.md R41). -/
def readByte (s : State) (addr : Word) : Byte := memRead s.mem addr.toNat

/-- `MemWrite(addr, 1, v)` (R42). -/
def writeByte (s : State) (addr : Word) (v : Byte) : State := s.setMem (memWrite s.mem addr.toNat v)

/-- `MemRead(addr, 2)`: little-endian, the high byte from `(addr + 1) mod 65536` (R43). -/
def readWord (s : State) (addr : Word) : Word := wordOf (readByte s (addr + 1)) (readByte s addr)

/-- `write_word(addr, v)`, the host's accessor (R45). -/
def writeWord (s : State) (addr v : Word) : State :=
  writeByte (writeByte s addr (loByte v)) (addr + 1) (hiByte v)

/-- `MemReadZP16(z)`: a pointer held in page zero, the high byte from `(z + 1) mod 256` (R44). -/
def readZp16 (s : State) (z : Byte) : Word := wordOf (readByte s (zext16 (z + 1))) (readByte s (zext16 z))

/-- The stack location `SP` names, `$0100 + SP` (10_state.md R13). -/
def stackAddr (sp : Byte) : Word := stackBase + zext16 sp

/-- `Push8(v)`: write, then decrement `SP` mod 256 (R47). -/
def push8 (s : State) (v : Byte) : State := (writeByte s (stackAddr s.sp) v).setSp (s.sp - 1)

/-- The state after `Pull8()`: `SP` incremented mod 256 (R48). -/
def pull8 (s : State) : State := s.setSp (s.sp + 1)

/-- The byte `Pull8()` delivers: the one at the incremented `SP` (R48). -/
def pulled8 (s : State) : Byte := readByte s (stackAddr (s.sp + 1))

/-- Two pushes, high byte first (45_control_flow.md R171, 60_exceptions.md R223). -/
def push16 (s : State) (w : Word) : State := push8 (push8 s (hiByte w)) (loByte w)

/-- The word two pulls deliver, low byte first (R172, R199). -/
def pulled16 (s : State) : Word := wordOf (pulled8 (pull8 s)) (pulled8 s)

/-- The state after two pulls. -/
def pull16 (s : State) : State := pull8 (pull8 s)

/-- `PC` after `Fetch8()` has read `n` bytes: advanced by one each, mod 65536 (40_addressing_modes.md R81). -/
def advancePc (n : Nat) (s : State) : State := s.setPc (s.pc + BitVec.ofNat 16 n)

/-- TAKING AN EXCEPTION: `InterruptEntry(vector, b)` (60_exceptions.md R223), shared by IRQ, NMI and BRK:
push `PC` high and low and the status byte with bit 4 = `b`, set `P.I`, load `PC` from the vector. Its 7
cycles are charged by the callers (IRQ and NMI by `tick`, BRK by its table count). -/
def interruptEntry (vector : Word) (b : Bool) (s : State) : State :=
  let t := push8 (push16 s s.pc) (pByte s.p b)
  (t.setP { t.p with i := true }).setPc (readWord t vector)

/-- RETURN FROM AN EXCEPTION: pull the status byte, then `PC`, low byte first (46_flag_system.md R199,
60_exceptions.md R226). -/
def interruptReturn (s : State) : State :=
  let t := (pull8 s).setP (pLoad s.p (pulled8 s))
  (pull16 t).setPc (pulled16 t)

/-- `reset()` (70_reset_and_hazards.md R240): a function of the memory alone (R241), which it leaves as it
is (R242). -/
def resetOp (s : State) : State where
  a := 0x00
  x := 0x00
  y := 0x00
  sp := 0xFF
  pc := readWord s resetVector
  p := { n := false, v := false, b := false, d := false, i := false, z := false, c := false }
  cycles := startupCycles
  life := .ready
  mem := s.mem

end Sys2Proof.Machine
end

