-- ==== Sys2Proof/Syntax.lean ====
section
/-! DEFINITION. The instructions as syntax: mnemonics, addressing modes, operands, and `Instr` with one
constructor per row of spec/opcode_table.json (30_encoding.md R64). -/

namespace Sys2Proof

/-- The 56 mnemonics of the opcode map (R64). -/
inductive Mnemonic where
  | lda | ldx | ldy | sta | stx | sty | tax | tay
  | txa | tya | tsx | txs | pha | php | pla | plp
  | and | ora | eor | bit | adc | sbc | cmp | cpx
  | cpy | inc | dec | inx | iny | dex | dey | asl
  | lsr | rol | ror | jmp | jsr | rts | bcc | bcs
  | beq | bne | bmi | bpl | bvc | bvs | clc | sec
  | cli | sei | cld | sed | clv | nop | brk | rti
deriving DecidableEq, Repr

/-- The 13 addressing-mode tags (R61, 90_conflicts.md C5). -/
inductive Mode where
  | imp | acc | imm | zp | zpx | zpy | abs | abx | aby | ind | izx | izy | rel
deriving DecidableEq, Repr

/-- The penalty class of a row (R64): a page-cross cycle, the branch rule, or nothing. -/
inductive Penalty where
  | none | pageCross | branch
deriving DecidableEq, Repr

/-- An addressing mode with its assembled operand (R62): `imm8`, `zp8`, `rel8` as the byte itself,
`addr16` and `ptr16` as a 16-bit word. -/
inductive Operand where
  | imp
  | acc
  | imm (v : Byte)
  | zp (z : Byte)
  | zpx (z : Byte)
  | zpy (z : Byte)
  | abs (w : Word)
  | abx (w : Word)
  | aby (w : Word)
  | ind (w : Word)
  | izx (z : Byte)
  | izy (z : Byte)
  | rel (o : Byte)
deriving DecidableEq, Repr

/-- One constructor per row of spec/opcode_table.json: the mnemonic, its mode, and the operand bytes the
mode assembles. Every operand value is admitted (00_scope.md R9.3). -/
inductive Instr where
  | ldaImm (v : Byte)  -- LDA #v, $A9, R100
  | ldaZp (z : Byte)  -- LDA z, $A5, R100
  | ldaZpx (z : Byte)  -- LDA z,X, $B5, R100
  | ldaAbs (w : Word)  -- LDA w, $AD, R100
  | ldaAbx (w : Word)  -- LDA w,X, $BD, R100
  | ldaAby (w : Word)  -- LDA w,Y, $B9, R100
  | ldaIzx (z : Byte)  -- LDA (z,X), $A1, R100
  | ldaIzy (z : Byte)  -- LDA (z),Y, $B1, R100
  | ldxImm (v : Byte)  -- LDX #v, $A2, R101
  | ldxZp (z : Byte)  -- LDX z, $A6, R101
  | ldxZpy (z : Byte)  -- LDX z,Y, $B6, R101
  | ldxAbs (w : Word)  -- LDX w, $AE, R101
  | ldxAby (w : Word)  -- LDX w,Y, $BE, R101
  | ldyImm (v : Byte)  -- LDY #v, $A0, R102
  | ldyZp (z : Byte)  -- LDY z, $A4, R102
  | ldyZpx (z : Byte)  -- LDY z,X, $B4, R102
  | ldyAbs (w : Word)  -- LDY w, $AC, R102
  | ldyAbx (w : Word)  -- LDY w,X, $BC, R102
  | staZp (z : Byte)  -- STA z, $85, R103
  | staZpx (z : Byte)  -- STA z,X, $95, R103
  | staAbs (w : Word)  -- STA w, $8D, R103
  | staAbx (w : Word)  -- STA w,X, $9D, R103
  | staAby (w : Word)  -- STA w,Y, $99, R103
  | staIzx (z : Byte)  -- STA (z,X), $81, R103
  | staIzy (z : Byte)  -- STA (z),Y, $91, R103
  | stxZp (z : Byte)  -- STX z, $86, R104
  | stxZpy (z : Byte)  -- STX z,Y, $96, R104
  | stxAbs (w : Word)  -- STX w, $8E, R104
  | styZp (z : Byte)  -- STY z, $84, R105
  | styZpx (z : Byte)  -- STY z,X, $94, R105
  | styAbs (w : Word)  -- STY w, $8C, R105
  | tax  -- TAX, $AA, R106
  | tay  -- TAY, $A8, R107
  | txa  -- TXA, $8A, R108
  | tya  -- TYA, $98, R109
  | tsx  -- TSX, $BA, R110
  | txs  -- TXS, $9A, R111
  | pha  -- PHA, $48, R120
  | php  -- PHP, $08, R121
  | pla  -- PLA, $68, R122
  | plp  -- PLP, $28, R123
  | andImm (v : Byte)  -- AND #v, $29, R130
  | andZp (z : Byte)  -- AND z, $25, R130
  | andZpx (z : Byte)  -- AND z,X, $35, R130
  | andAbs (w : Word)  -- AND w, $2D, R130
  | andAbx (w : Word)  -- AND w,X, $3D, R130
  | andAby (w : Word)  -- AND w,Y, $39, R130
  | andIzx (z : Byte)  -- AND (z,X), $21, R130
  | andIzy (z : Byte)  -- AND (z),Y, $31, R130
  | oraImm (v : Byte)  -- ORA #v, $09, R131
  | oraZp (z : Byte)  -- ORA z, $05, R131
  | oraZpx (z : Byte)  -- ORA z,X, $15, R131
  | oraAbs (w : Word)  -- ORA w, $0D, R131
  | oraAbx (w : Word)  -- ORA w,X, $1D, R131
  | oraAby (w : Word)  -- ORA w,Y, $19, R131
  | oraIzx (z : Byte)  -- ORA (z,X), $01, R131
  | oraIzy (z : Byte)  -- ORA (z),Y, $11, R131
  | eorImm (v : Byte)  -- EOR #v, $49, R132
  | eorZp (z : Byte)  -- EOR z, $45, R132
  | eorZpx (z : Byte)  -- EOR z,X, $55, R132
  | eorAbs (w : Word)  -- EOR w, $4D, R132
  | eorAbx (w : Word)  -- EOR w,X, $5D, R132
  | eorAby (w : Word)  -- EOR w,Y, $59, R132
  | eorIzx (z : Byte)  -- EOR (z,X), $41, R132
  | eorIzy (z : Byte)  -- EOR (z),Y, $51, R132
  | bitZp (z : Byte)  -- BIT z, $24, R133
  | bitAbs (w : Word)  -- BIT w, $2C, R133
  | adcImm (v : Byte)  -- ADC #v, $69, R134
  | adcZp (z : Byte)  -- ADC z, $65, R134
  | adcZpx (z : Byte)  -- ADC z,X, $75, R134
  | adcAbs (w : Word)  -- ADC w, $6D, R134
  | adcAbx (w : Word)  -- ADC w,X, $7D, R134
  | adcAby (w : Word)  -- ADC w,Y, $79, R134
  | adcIzx (z : Byte)  -- ADC (z,X), $61, R134
  | adcIzy (z : Byte)  -- ADC (z),Y, $71, R134
  | sbcImm (v : Byte)  -- SBC #v, $E9, R135
  | sbcZp (z : Byte)  -- SBC z, $E5, R135
  | sbcZpx (z : Byte)  -- SBC z,X, $F5, R135
  | sbcAbs (w : Word)  -- SBC w, $ED, R135
  | sbcAbx (w : Word)  -- SBC w,X, $FD, R135
  | sbcAby (w : Word)  -- SBC w,Y, $F9, R135
  | sbcIzx (z : Byte)  -- SBC (z,X), $E1, R135
  | sbcIzy (z : Byte)  -- SBC (z),Y, $F1, R135
  | cmpImm (v : Byte)  -- CMP #v, $C9, R136
  | cmpZp (z : Byte)  -- CMP z, $C5, R136
  | cmpZpx (z : Byte)  -- CMP z,X, $D5, R136
  | cmpAbs (w : Word)  -- CMP w, $CD, R136
  | cmpAbx (w : Word)  -- CMP w,X, $DD, R136
  | cmpAby (w : Word)  -- CMP w,Y, $D9, R136
  | cmpIzx (z : Byte)  -- CMP (z,X), $C1, R136
  | cmpIzy (z : Byte)  -- CMP (z),Y, $D1, R136
  | cpxImm (v : Byte)  -- CPX #v, $E0, R137
  | cpxZp (z : Byte)  -- CPX z, $E4, R137
  | cpxAbs (w : Word)  -- CPX w, $EC, R137
  | cpyImm (v : Byte)  -- CPY #v, $C0, R138
  | cpyZp (z : Byte)  -- CPY z, $C4, R138
  | cpyAbs (w : Word)  -- CPY w, $CC, R138
  | incZp (z : Byte)  -- INC z, $E6, R150
  | incZpx (z : Byte)  -- INC z,X, $F6, R150
  | incAbs (w : Word)  -- INC w, $EE, R150
  | incAbx (w : Word)  -- INC w,X, $FE, R150
  | decZp (z : Byte)  -- DEC z, $C6, R151
  | decZpx (z : Byte)  -- DEC z,X, $D6, R151
  | decAbs (w : Word)  -- DEC w, $CE, R151
  | decAbx (w : Word)  -- DEC w,X, $DE, R151
  | inx  -- INX, $E8, R152
  | iny  -- INY, $C8, R153
  | dex  -- DEX, $CA, R154
  | dey  -- DEY, $88, R155
  | aslAcc  -- ASL A, $0A, R156
  | aslZp (z : Byte)  -- ASL z, $06, R156
  | aslZpx (z : Byte)  -- ASL z,X, $16, R156
  | aslAbs (w : Word)  -- ASL w, $0E, R156
  | aslAbx (w : Word)  -- ASL w,X, $1E, R156
  | lsrAcc  -- LSR A, $4A, R157
  | lsrZp (z : Byte)  -- LSR z, $46, R157
  | lsrZpx (z : Byte)  -- LSR z,X, $56, R157
  | lsrAbs (w : Word)  -- LSR w, $4E, R157
  | lsrAbx (w : Word)  -- LSR w,X, $5E, R157
  | rolAcc  -- ROL A, $2A, R158
  | rolZp (z : Byte)  -- ROL z, $26, R158
  | rolZpx (z : Byte)  -- ROL z,X, $36, R158
  | rolAbs (w : Word)  -- ROL w, $2E, R158
  | rolAbx (w : Word)  -- ROL w,X, $3E, R158
  | rorAcc  -- ROR A, $6A, R159
  | rorZp (z : Byte)  -- ROR z, $66, R159
  | rorZpx (z : Byte)  -- ROR z,X, $76, R159
  | rorAbs (w : Word)  -- ROR w, $6E, R159
  | rorAbx (w : Word)  -- ROR w,X, $7E, R159
  | jmpAbs (w : Word)  -- JMP w, $4C, R170
  | jmpInd (w : Word)  -- JMP (w), $6C, R170
  | jsr (w : Word)  -- JSR w, $20, R171
  | rts  -- RTS, $60, R172
  | bcc (o : Byte)  -- BCC o, $90, R173
  | bcs (o : Byte)  -- BCS o, $B0, R174
  | beq (o : Byte)  -- BEQ o, $F0, R175
  | bne (o : Byte)  -- BNE o, $D0, R176
  | bmi (o : Byte)  -- BMI o, $30, R177
  | bpl (o : Byte)  -- BPL o, $10, R178
  | bvc (o : Byte)  -- BVC o, $50, R179
  | bvs (o : Byte)  -- BVS o, $70, R180
  | clc  -- CLC, $18, R190
  | sec  -- SEC, $38, R191
  | cli  -- CLI, $58, R192
  | sei  -- SEI, $78, R193
  | cld  -- CLD, $D8, R194
  | sed  -- SED, $F8, R195
  | clv  -- CLV, $B8, R196
  | nop  -- NOP, $EA, R197
  | brk  -- BRK, $00, R198
  | rti  -- RTI, $40, R199
deriving DecidableEq, Repr

end Sys2Proof
end

