-- ==== Sys2Proof/Decode.lean ====
section
/-! DEFINITION. The instruction decoder (30_encoding.md): the table from an opcode byte to a mnemonic and
a mode, operand assembly, decoding of any bytes, and after it the encoder. -/

namespace Sys2Proof

open Machine

/-- A row of the opcode table (R60, R64): opcode byte, mnemonic, mode, base cycles, penalty class. -/
structure Row where
  opcode : Byte
  mnemonic : Mnemonic
  mode : Mode
  cycles : Nat
  penalty : Penalty
deriving DecidableEq, Repr

/-- An InstructionSet is its rows in the order they were registered (R60, R67). -/
abbrev InstructionSet := List Row

/-- `lookup(opcode)`: the row registered last for that byte (R60; "last-writer-wins", R67), or a miss. -/
def lookup : InstructionSet → Byte → Option Row
  | [], _ => none
  | r :: rs, b =>
    match lookup rs b with
    | some q => some q
    | none => if r.opcode == b then some r else none

/-- R64, opcodes $00 to $0F. -/
def rows0x : InstructionSet := [
  ⟨0x00, .brk, .imp, 7, .none⟩,
  ⟨0x01, .ora, .izx, 6, .none⟩,
  ⟨0x05, .ora, .zp, 3, .none⟩,
  ⟨0x06, .asl, .zp, 5, .none⟩,
  ⟨0x08, .php, .imp, 3, .none⟩,
  ⟨0x09, .ora, .imm, 2, .none⟩,
  ⟨0x0A, .asl, .acc, 2, .none⟩,
  ⟨0x0D, .ora, .abs, 4, .none⟩,
  ⟨0x0E, .asl, .abs, 6, .none⟩]

/-- R64, opcodes $10 to $1F. -/
def rows1x : InstructionSet := [
  ⟨0x10, .bpl, .rel, 2, .branch⟩,
  ⟨0x11, .ora, .izy, 5, .pageCross⟩,
  ⟨0x15, .ora, .zpx, 4, .none⟩,
  ⟨0x16, .asl, .zpx, 6, .none⟩,
  ⟨0x18, .clc, .imp, 2, .none⟩,
  ⟨0x19, .ora, .aby, 4, .pageCross⟩,
  ⟨0x1D, .ora, .abx, 4, .pageCross⟩,
  ⟨0x1E, .asl, .abx, 7, .none⟩]

/-- R64, opcodes $20 to $2F. -/
def rows2x : InstructionSet := [
  ⟨0x20, .jsr, .abs, 6, .none⟩,
  ⟨0x21, .and, .izx, 6, .none⟩,
  ⟨0x24, .bit, .zp, 3, .none⟩,
  ⟨0x25, .and, .zp, 3, .none⟩,
  ⟨0x26, .rol, .zp, 5, .none⟩,
  ⟨0x28, .plp, .imp, 4, .none⟩,
  ⟨0x29, .and, .imm, 2, .none⟩,
  ⟨0x2A, .rol, .acc, 2, .none⟩,
  ⟨0x2C, .bit, .abs, 4, .none⟩,
  ⟨0x2D, .and, .abs, 4, .none⟩,
  ⟨0x2E, .rol, .abs, 6, .none⟩]

/-- R64, opcodes $30 to $3F. -/
def rows3x : InstructionSet := [
  ⟨0x30, .bmi, .rel, 2, .branch⟩,
  ⟨0x31, .and, .izy, 5, .pageCross⟩,
  ⟨0x35, .and, .zpx, 4, .none⟩,
  ⟨0x36, .rol, .zpx, 6, .none⟩,
  ⟨0x38, .sec, .imp, 2, .none⟩,
  ⟨0x39, .and, .aby, 4, .pageCross⟩,
  ⟨0x3D, .and, .abx, 4, .pageCross⟩,
  ⟨0x3E, .rol, .abx, 7, .none⟩]

/-- R64, opcodes $40 to $4F. -/
def rows4x : InstructionSet := [
  ⟨0x40, .rti, .imp, 6, .none⟩,
  ⟨0x41, .eor, .izx, 6, .none⟩,
  ⟨0x45, .eor, .zp, 3, .none⟩,
  ⟨0x46, .lsr, .zp, 5, .none⟩,
  ⟨0x48, .pha, .imp, 3, .none⟩,
  ⟨0x49, .eor, .imm, 2, .none⟩,
  ⟨0x4A, .lsr, .acc, 2, .none⟩,
  ⟨0x4C, .jmp, .abs, 3, .none⟩,
  ⟨0x4D, .eor, .abs, 4, .none⟩,
  ⟨0x4E, .lsr, .abs, 6, .none⟩]

/-- R64, opcodes $50 to $5F. -/
def rows5x : InstructionSet := [
  ⟨0x50, .bvc, .rel, 2, .branch⟩,
  ⟨0x51, .eor, .izy, 5, .pageCross⟩,
  ⟨0x55, .eor, .zpx, 4, .none⟩,
  ⟨0x56, .lsr, .zpx, 6, .none⟩,
  ⟨0x58, .cli, .imp, 2, .none⟩,
  ⟨0x59, .eor, .aby, 4, .pageCross⟩,
  ⟨0x5D, .eor, .abx, 4, .pageCross⟩,
  ⟨0x5E, .lsr, .abx, 7, .none⟩]

/-- R64, opcodes $60 to $6F. -/
def rows6x : InstructionSet := [
  ⟨0x60, .rts, .imp, 6, .none⟩,
  ⟨0x61, .adc, .izx, 6, .none⟩,
  ⟨0x65, .adc, .zp, 3, .none⟩,
  ⟨0x66, .ror, .zp, 5, .none⟩,
  ⟨0x68, .pla, .imp, 4, .none⟩,
  ⟨0x69, .adc, .imm, 2, .none⟩,
  ⟨0x6A, .ror, .acc, 2, .none⟩,
  ⟨0x6C, .jmp, .ind, 5, .none⟩,
  ⟨0x6D, .adc, .abs, 4, .none⟩,
  ⟨0x6E, .ror, .abs, 6, .none⟩]

/-- R64, opcodes $70 to $7F. -/
def rows7x : InstructionSet := [
  ⟨0x70, .bvs, .rel, 2, .branch⟩,
  ⟨0x71, .adc, .izy, 5, .pageCross⟩,
  ⟨0x75, .adc, .zpx, 4, .none⟩,
  ⟨0x76, .ror, .zpx, 6, .none⟩,
  ⟨0x78, .sei, .imp, 2, .none⟩,
  ⟨0x79, .adc, .aby, 4, .pageCross⟩,
  ⟨0x7D, .adc, .abx, 4, .pageCross⟩,
  ⟨0x7E, .ror, .abx, 7, .none⟩]

/-- R64, opcodes $80 to $8F. -/
def rows8x : InstructionSet := [
  ⟨0x81, .sta, .izx, 6, .none⟩,
  ⟨0x84, .sty, .zp, 3, .none⟩,
  ⟨0x85, .sta, .zp, 3, .none⟩,
  ⟨0x86, .stx, .zp, 3, .none⟩,
  ⟨0x88, .dey, .imp, 2, .none⟩,
  ⟨0x8A, .txa, .imp, 2, .none⟩,
  ⟨0x8C, .sty, .abs, 4, .none⟩,
  ⟨0x8D, .sta, .abs, 4, .none⟩,
  ⟨0x8E, .stx, .abs, 4, .none⟩]

/-- R64, opcodes $90 to $9F. -/
def rows9x : InstructionSet := [
  ⟨0x90, .bcc, .rel, 2, .branch⟩,
  ⟨0x91, .sta, .izy, 6, .none⟩,
  ⟨0x94, .sty, .zpx, 4, .none⟩,
  ⟨0x95, .sta, .zpx, 4, .none⟩,
  ⟨0x96, .stx, .zpy, 4, .none⟩,
  ⟨0x98, .tya, .imp, 2, .none⟩,
  ⟨0x99, .sta, .aby, 5, .none⟩,
  ⟨0x9A, .txs, .imp, 2, .none⟩,
  ⟨0x9D, .sta, .abx, 5, .none⟩]

/-- R64, opcodes $A0 to $AF. -/
def rowsAx : InstructionSet := [
  ⟨0xA0, .ldy, .imm, 2, .none⟩,
  ⟨0xA1, .lda, .izx, 6, .none⟩,
  ⟨0xA2, .ldx, .imm, 2, .none⟩,
  ⟨0xA4, .ldy, .zp, 3, .none⟩,
  ⟨0xA5, .lda, .zp, 3, .none⟩,
  ⟨0xA6, .ldx, .zp, 3, .none⟩,
  ⟨0xA8, .tay, .imp, 2, .none⟩,
  ⟨0xA9, .lda, .imm, 2, .none⟩,
  ⟨0xAA, .tax, .imp, 2, .none⟩,
  ⟨0xAC, .ldy, .abs, 4, .none⟩,
  ⟨0xAD, .lda, .abs, 4, .none⟩,
  ⟨0xAE, .ldx, .abs, 4, .none⟩]

/-- R64, opcodes $B0 to $BF. -/
def rowsBx : InstructionSet := [
  ⟨0xB0, .bcs, .rel, 2, .branch⟩,
  ⟨0xB1, .lda, .izy, 5, .pageCross⟩,
  ⟨0xB4, .ldy, .zpx, 4, .none⟩,
  ⟨0xB5, .lda, .zpx, 4, .none⟩,
  ⟨0xB6, .ldx, .zpy, 4, .none⟩,
  ⟨0xB8, .clv, .imp, 2, .none⟩,
  ⟨0xB9, .lda, .aby, 4, .pageCross⟩,
  ⟨0xBA, .tsx, .imp, 2, .none⟩,
  ⟨0xBC, .ldy, .abx, 4, .pageCross⟩,
  ⟨0xBD, .lda, .abx, 4, .pageCross⟩,
  ⟨0xBE, .ldx, .aby, 4, .pageCross⟩]

/-- R64, opcodes $C0 to $CF. -/
def rowsCx : InstructionSet := [
  ⟨0xC0, .cpy, .imm, 2, .none⟩,
  ⟨0xC1, .cmp, .izx, 6, .none⟩,
  ⟨0xC4, .cpy, .zp, 3, .none⟩,
  ⟨0xC5, .cmp, .zp, 3, .none⟩,
  ⟨0xC6, .dec, .zp, 5, .none⟩,
  ⟨0xC8, .iny, .imp, 2, .none⟩,
  ⟨0xC9, .cmp, .imm, 2, .none⟩,
  ⟨0xCA, .dex, .imp, 2, .none⟩,
  ⟨0xCC, .cpy, .abs, 4, .none⟩,
  ⟨0xCD, .cmp, .abs, 4, .none⟩,
  ⟨0xCE, .dec, .abs, 6, .none⟩]

/-- R64, opcodes $D0 to $DF. -/
def rowsDx : InstructionSet := [
  ⟨0xD0, .bne, .rel, 2, .branch⟩,
  ⟨0xD1, .cmp, .izy, 5, .pageCross⟩,
  ⟨0xD5, .cmp, .zpx, 4, .none⟩,
  ⟨0xD6, .dec, .zpx, 6, .none⟩,
  ⟨0xD8, .cld, .imp, 2, .none⟩,
  ⟨0xD9, .cmp, .aby, 4, .pageCross⟩,
  ⟨0xDD, .cmp, .abx, 4, .pageCross⟩,
  ⟨0xDE, .dec, .abx, 7, .none⟩]

/-- R64, opcodes $E0 to $EF. -/
def rowsEx : InstructionSet := [
  ⟨0xE0, .cpx, .imm, 2, .none⟩,
  ⟨0xE1, .sbc, .izx, 6, .none⟩,
  ⟨0xE4, .cpx, .zp, 3, .none⟩,
  ⟨0xE5, .sbc, .zp, 3, .none⟩,
  ⟨0xE6, .inc, .zp, 5, .none⟩,
  ⟨0xE8, .inx, .imp, 2, .none⟩,
  ⟨0xE9, .sbc, .imm, 2, .none⟩,
  ⟨0xEA, .nop, .imp, 2, .none⟩,
  ⟨0xEC, .cpx, .abs, 4, .none⟩,
  ⟨0xED, .sbc, .abs, 4, .none⟩,
  ⟨0xEE, .inc, .abs, 6, .none⟩]

/-- R64, opcodes $F0 to $FF. -/
def rowsFx : InstructionSet := [
  ⟨0xF0, .beq, .rel, 2, .branch⟩,
  ⟨0xF1, .sbc, .izy, 5, .pageCross⟩,
  ⟨0xF5, .sbc, .zpx, 4, .none⟩,
  ⟨0xF6, .inc, .zpx, 6, .none⟩,
  ⟨0xF8, .sed, .imp, 2, .none⟩,
  ⟨0xF9, .sbc, .aby, 4, .pageCross⟩,
  ⟨0xFD, .sbc, .abx, 4, .pageCross⟩,
  ⟨0xFE, .inc, .abx, 7, .none⟩]

/-- The base table `base_6502()`: exactly the 151 rows of R64. -/
def base6502 : InstructionSet :=
  rows0x ++ rows1x ++ rows2x ++ rows3x ++ rows4x ++ rows5x ++ rows6x ++ rows7x ++
  rows8x ++ rows9x ++ rowsAx ++ rowsBx ++ rowsCx ++ rowsDx ++ rowsEx ++ rowsFx

/-- Instruction length by mode (R61). -/
def Mode.length : Mode → Nat
  | .imp | .acc => 1
  | .imm | .zp | .zpx | .zpy | .izx | .izy | .rel => 2
  | .abs | .abx | .aby | .ind => 3

/-- Operand assembly from the two bytes after the opcode (R62); a mode uses as many as its length says. -/
def assembleOperand (md : Mode) (b1 b2 : Byte) : Operand :=
  match md with
  | .imp => .imp
  | .acc => .acc
  | .imm => .imm b1
  | .zp => .zp b1
  | .zpx => .zpx b1
  | .zpy => .zpy b1
  | .abs => .abs (wordOf b2 b1)
  | .abx => .abx (wordOf b2 b1)
  | .aby => .aby (wordOf b2 b1)
  | .ind => .ind (wordOf b2 b1)
  | .izx => .izx b1
  | .izy => .izy b1
  | .rel => .rel b1

/-- The instruction a mnemonic and an operand make, where the mnemonic's rule accepts the mode (R95). -/
def Instr.ofParts (m : Mnemonic) (o : Operand) : Option Instr :=
  match m with
  | .lda =>
    match o with
    | .imm v => some (.ldaImm v)
    | .zp z => some (.ldaZp z)
    | .zpx z => some (.ldaZpx z)
    | .abs w => some (.ldaAbs w)
    | .abx w => some (.ldaAbx w)
    | .aby w => some (.ldaAby w)
    | .izx z => some (.ldaIzx z)
    | .izy z => some (.ldaIzy z)
    | _ => none
  | .ldx =>
    match o with
    | .imm v => some (.ldxImm v)
    | .zp z => some (.ldxZp z)
    | .zpy z => some (.ldxZpy z)
    | .abs w => some (.ldxAbs w)
    | .aby w => some (.ldxAby w)
    | _ => none
  | .ldy =>
    match o with
    | .imm v => some (.ldyImm v)
    | .zp z => some (.ldyZp z)
    | .zpx z => some (.ldyZpx z)
    | .abs w => some (.ldyAbs w)
    | .abx w => some (.ldyAbx w)
    | _ => none
  | .sta =>
    match o with
    | .zp z => some (.staZp z)
    | .zpx z => some (.staZpx z)
    | .abs w => some (.staAbs w)
    | .abx w => some (.staAbx w)
    | .aby w => some (.staAby w)
    | .izx z => some (.staIzx z)
    | .izy z => some (.staIzy z)
    | _ => none
  | .stx =>
    match o with
    | .zp z => some (.stxZp z)
    | .zpy z => some (.stxZpy z)
    | .abs w => some (.stxAbs w)
    | _ => none
  | .sty =>
    match o with
    | .zp z => some (.styZp z)
    | .zpx z => some (.styZpx z)
    | .abs w => some (.styAbs w)
    | _ => none
  | .tax => match o with | .imp => some .tax | _ => none
  | .tay => match o with | .imp => some .tay | _ => none
  | .txa => match o with | .imp => some .txa | _ => none
  | .tya => match o with | .imp => some .tya | _ => none
  | .tsx => match o with | .imp => some .tsx | _ => none
  | .txs => match o with | .imp => some .txs | _ => none
  | .pha => match o with | .imp => some .pha | _ => none
  | .php => match o with | .imp => some .php | _ => none
  | .pla => match o with | .imp => some .pla | _ => none
  | .plp => match o with | .imp => some .plp | _ => none
  | .and =>
    match o with
    | .imm v => some (.andImm v)
    | .zp z => some (.andZp z)
    | .zpx z => some (.andZpx z)
    | .abs w => some (.andAbs w)
    | .abx w => some (.andAbx w)
    | .aby w => some (.andAby w)
    | .izx z => some (.andIzx z)
    | .izy z => some (.andIzy z)
    | _ => none
  | .ora =>
    match o with
    | .imm v => some (.oraImm v)
    | .zp z => some (.oraZp z)
    | .zpx z => some (.oraZpx z)
    | .abs w => some (.oraAbs w)
    | .abx w => some (.oraAbx w)
    | .aby w => some (.oraAby w)
    | .izx z => some (.oraIzx z)
    | .izy z => some (.oraIzy z)
    | _ => none
  | .eor =>
    match o with
    | .imm v => some (.eorImm v)
    | .zp z => some (.eorZp z)
    | .zpx z => some (.eorZpx z)
    | .abs w => some (.eorAbs w)
    | .abx w => some (.eorAbx w)
    | .aby w => some (.eorAby w)
    | .izx z => some (.eorIzx z)
    | .izy z => some (.eorIzy z)
    | _ => none
  | .bit =>
    match o with
    | .zp z => some (.bitZp z)
    | .abs w => some (.bitAbs w)
    | _ => none
  | .adc =>
    match o with
    | .imm v => some (.adcImm v)
    | .zp z => some (.adcZp z)
    | .zpx z => some (.adcZpx z)
    | .abs w => some (.adcAbs w)
    | .abx w => some (.adcAbx w)
    | .aby w => some (.adcAby w)
    | .izx z => some (.adcIzx z)
    | .izy z => some (.adcIzy z)
    | _ => none
  | .sbc =>
    match o with
    | .imm v => some (.sbcImm v)
    | .zp z => some (.sbcZp z)
    | .zpx z => some (.sbcZpx z)
    | .abs w => some (.sbcAbs w)
    | .abx w => some (.sbcAbx w)
    | .aby w => some (.sbcAby w)
    | .izx z => some (.sbcIzx z)
    | .izy z => some (.sbcIzy z)
    | _ => none
  | .cmp =>
    match o with
    | .imm v => some (.cmpImm v)
    | .zp z => some (.cmpZp z)
    | .zpx z => some (.cmpZpx z)
    | .abs w => some (.cmpAbs w)
    | .abx w => some (.cmpAbx w)
    | .aby w => some (.cmpAby w)
    | .izx z => some (.cmpIzx z)
    | .izy z => some (.cmpIzy z)
    | _ => none
  | .cpx =>
    match o with
    | .imm v => some (.cpxImm v)
    | .zp z => some (.cpxZp z)
    | .abs w => some (.cpxAbs w)
    | _ => none
  | .cpy =>
    match o with
    | .imm v => some (.cpyImm v)
    | .zp z => some (.cpyZp z)
    | .abs w => some (.cpyAbs w)
    | _ => none
  | .inc =>
    match o with
    | .zp z => some (.incZp z)
    | .zpx z => some (.incZpx z)
    | .abs w => some (.incAbs w)
    | .abx w => some (.incAbx w)
    | _ => none
  | .dec =>
    match o with
    | .zp z => some (.decZp z)
    | .zpx z => some (.decZpx z)
    | .abs w => some (.decAbs w)
    | .abx w => some (.decAbx w)
    | _ => none
  | .inx => match o with | .imp => some .inx | _ => none
  | .iny => match o with | .imp => some .iny | _ => none
  | .dex => match o with | .imp => some .dex | _ => none
  | .dey => match o with | .imp => some .dey | _ => none
  | .asl =>
    match o with
    | .acc => some .aslAcc
    | .zp z => some (.aslZp z)
    | .zpx z => some (.aslZpx z)
    | .abs w => some (.aslAbs w)
    | .abx w => some (.aslAbx w)
    | _ => none
  | .lsr =>
    match o with
    | .acc => some .lsrAcc
    | .zp z => some (.lsrZp z)
    | .zpx z => some (.lsrZpx z)
    | .abs w => some (.lsrAbs w)
    | .abx w => some (.lsrAbx w)
    | _ => none
  | .rol =>
    match o with
    | .acc => some .rolAcc
    | .zp z => some (.rolZp z)
    | .zpx z => some (.rolZpx z)
    | .abs w => some (.rolAbs w)
    | .abx w => some (.rolAbx w)
    | _ => none
  | .ror =>
    match o with
    | .acc => some .rorAcc
    | .zp z => some (.rorZp z)
    | .zpx z => some (.rorZpx z)
    | .abs w => some (.rorAbs w)
    | .abx w => some (.rorAbx w)
    | _ => none
  | .jmp =>
    match o with
    | .abs w => some (.jmpAbs w)
    | .ind w => some (.jmpInd w)
    | _ => none
  | .jsr => match o with | .abs w => some (.jsr w) | _ => none
  | .rts => match o with | .imp => some .rts | _ => none
  | .bcc => match o with | .rel o => some (.bcc o) | _ => none
  | .bcs => match o with | .rel o => some (.bcs o) | _ => none
  | .beq => match o with | .rel o => some (.beq o) | _ => none
  | .bne => match o with | .rel o => some (.bne o) | _ => none
  | .bmi => match o with | .rel o => some (.bmi o) | _ => none
  | .bpl => match o with | .rel o => some (.bpl o) | _ => none
  | .bvc => match o with | .rel o => some (.bvc o) | _ => none
  | .bvs => match o with | .rel o => some (.bvs o) | _ => none
  | .clc => match o with | .imp => some .clc | _ => none
  | .sec => match o with | .imp => some .sec | _ => none
  | .cli => match o with | .imp => some .cli | _ => none
  | .sei => match o with | .imp => some .sei | _ => none
  | .cld => match o with | .imp => some .cld | _ => none
  | .sed => match o with | .imp => some .sed | _ => none
  | .clv => match o with | .imp => some .clv | _ => none
  | .nop => match o with | .imp => some .nop | _ => none
  | .brk => match o with | .imp => some .brk | _ => none
  | .rti => match o with | .imp => some .rti | _ => none

/-- Why bytes are no instruction: the opcode byte has no row (R66), or its row pairs a mnemonic with a
mode its rule does not accept, which no row of the base table does (R95). -/
inductive DecodeError where
  | unknownOpcode (opcode : Byte)
  | malformedRow (m : Mnemonic) (md : Mode)
deriving DecidableEq, Repr

/-- The decoder of the base table: the opcode byte and the two bytes that follow it in memory, of which the mode uses as
many as the instruction has. Total; a byte without a row is rejected by name, "never a silent
default/NOP" (R60, R66). -/
def decode (b0 b1 b2 : Byte) : Except DecodeError Instr :=
  match lookup base6502 b0 with
  | none => .error (.unknownOpcode b0)
  | some r =>
    match Instr.ofParts r.mnemonic (assembleOperand r.mode b1 b2) with
    | some i => .ok i
    | none => .error (.malformedRow r.mnemonic r.mode)

/-- The number of bytes an instruction occupies (R61); BRK counts one here, its padding byte is read by
its execution (90_conflicts.md C14). -/
def Instr.length (i : Instr) : Nat := i.operand.mode.length

/-- The opcode byte of an instruction, from R64's table by mnemonic. -/
def Instr.opcode : Instr → Byte
  | .ldaImm _ => 0xA9
  | .ldaZp _ => 0xA5
  | .ldaZpx _ => 0xB5
  | .ldaAbs _ => 0xAD
  | .ldaAbx _ => 0xBD
  | .ldaAby _ => 0xB9
  | .ldaIzx _ => 0xA1
  | .ldaIzy _ => 0xB1
  | .ldxImm _ => 0xA2
  | .ldxZp _ => 0xA6
  | .ldxZpy _ => 0xB6
  | .ldxAbs _ => 0xAE
  | .ldxAby _ => 0xBE
  | .ldyImm _ => 0xA0
  | .ldyZp _ => 0xA4
  | .ldyZpx _ => 0xB4
  | .ldyAbs _ => 0xAC
  | .ldyAbx _ => 0xBC
  | .staZp _ => 0x85
  | .staZpx _ => 0x95
  | .staAbs _ => 0x8D
  | .staAbx _ => 0x9D
  | .staAby _ => 0x99
  | .staIzx _ => 0x81
  | .staIzy _ => 0x91
  | .stxZp _ => 0x86
  | .stxZpy _ => 0x96
  | .stxAbs _ => 0x8E
  | .styZp _ => 0x84
  | .styZpx _ => 0x94
  | .styAbs _ => 0x8C
  | .tax => 0xAA
  | .tay => 0xA8
  | .txa => 0x8A
  | .tya => 0x98
  | .tsx => 0xBA
  | .txs => 0x9A
  | .pha => 0x48
  | .php => 0x08
  | .pla => 0x68
  | .plp => 0x28
  | .andImm _ => 0x29
  | .andZp _ => 0x25
  | .andZpx _ => 0x35
  | .andAbs _ => 0x2D
  | .andAbx _ => 0x3D
  | .andAby _ => 0x39
  | .andIzx _ => 0x21
  | .andIzy _ => 0x31
  | .oraImm _ => 0x09
  | .oraZp _ => 0x05
  | .oraZpx _ => 0x15
  | .oraAbs _ => 0x0D
  | .oraAbx _ => 0x1D
  | .oraAby _ => 0x19
  | .oraIzx _ => 0x01
  | .oraIzy _ => 0x11
  | .eorImm _ => 0x49
  | .eorZp _ => 0x45
  | .eorZpx _ => 0x55
  | .eorAbs _ => 0x4D
  | .eorAbx _ => 0x5D
  | .eorAby _ => 0x59
  | .eorIzx _ => 0x41
  | .eorIzy _ => 0x51
  | .bitZp _ => 0x24
  | .bitAbs _ => 0x2C
  | .adcImm _ => 0x69
  | .adcZp _ => 0x65
  | .adcZpx _ => 0x75
  | .adcAbs _ => 0x6D
  | .adcAbx _ => 0x7D
  | .adcAby _ => 0x79
  | .adcIzx _ => 0x61
  | .adcIzy _ => 0x71
  | .sbcImm _ => 0xE9
  | .sbcZp _ => 0xE5
  | .sbcZpx _ => 0xF5
  | .sbcAbs _ => 0xED
  | .sbcAbx _ => 0xFD
  | .sbcAby _ => 0xF9
  | .sbcIzx _ => 0xE1
  | .sbcIzy _ => 0xF1
  | .cmpImm _ => 0xC9
  | .cmpZp _ => 0xC5
  | .cmpZpx _ => 0xD5
  | .cmpAbs _ => 0xCD
  | .cmpAbx _ => 0xDD
  | .cmpAby _ => 0xD9
  | .cmpIzx _ => 0xC1
  | .cmpIzy _ => 0xD1
  | .cpxImm _ => 0xE0
  | .cpxZp _ => 0xE4
  | .cpxAbs _ => 0xEC
  | .cpyImm _ => 0xC0
  | .cpyZp _ => 0xC4
  | .cpyAbs _ => 0xCC
  | .incZp _ => 0xE6
  | .incZpx _ => 0xF6
  | .incAbs _ => 0xEE
  | .incAbx _ => 0xFE
  | .decZp _ => 0xC6
  | .decZpx _ => 0xD6
  | .decAbs _ => 0xCE
  | .decAbx _ => 0xDE
  | .inx => 0xE8
  | .iny => 0xC8
  | .dex => 0xCA
  | .dey => 0x88
  | .aslAcc => 0x0A
  | .aslZp _ => 0x06
  | .aslZpx _ => 0x16
  | .aslAbs _ => 0x0E
  | .aslAbx _ => 0x1E
  | .lsrAcc => 0x4A
  | .lsrZp _ => 0x46
  | .lsrZpx _ => 0x56
  | .lsrAbs _ => 0x4E
  | .lsrAbx _ => 0x5E
  | .rolAcc => 0x2A
  | .rolZp _ => 0x26
  | .rolZpx _ => 0x36
  | .rolAbs _ => 0x2E
  | .rolAbx _ => 0x3E
  | .rorAcc => 0x6A
  | .rorZp _ => 0x66
  | .rorZpx _ => 0x76
  | .rorAbs _ => 0x6E
  | .rorAbx _ => 0x7E
  | .jmpAbs _ => 0x4C
  | .jmpInd _ => 0x6C
  | .jsr _ => 0x20
  | .rts => 0x60
  | .bcc _ => 0x90
  | .bcs _ => 0xB0
  | .beq _ => 0xF0
  | .bne _ => 0xD0
  | .bmi _ => 0x30
  | .bpl _ => 0x10
  | .bvc _ => 0x50
  | .bvs _ => 0x70
  | .clc => 0x18
  | .sec => 0x38
  | .cli => 0x58
  | .sei => 0x78
  | .cld => 0xD8
  | .sed => 0xF8
  | .clv => 0xB8
  | .nop => 0xEA
  | .brk => 0x00
  | .rti => 0x40

/-- The operand bytes in memory order, low byte of a 16-bit operand first (R61, R62). -/
def Operand.bytes : Operand → List Byte
  | .imp | .acc => []
  | .imm b | .zp b | .zpx b | .zpy b | .izx b | .izy b | .rel b => [b]
  | .abs w | .abx w | .aby w | .ind w => [loByte w, hiByte w]

/-- The encoder: the opcode byte, then the operand bytes at ascending addresses (R61). -/
def encode (i : Instr) : List Byte := i.opcode :: i.operand.bytes

/-- Byte `k` of an instruction whose bits are numbered from the first byte up. -/
def tableByte (w k : Nat) : Byte := BitVec.ofNat 8 (w / 2 ^ (8 * k))

/-- The instruction the decoder reads from an instruction whose `nbits` lowest bits are those of `w` and
whose further bits are 0, first byte in bits 7..0. -/
def decodeTableWord (nbits w : Nat) : Option Instr :=
  let v := w % 2 ^ nbits
  (decode (tableByte v 0) (tableByte v 1) (tableByte v 2)).toOption

end Sys2Proof
end

