-- ==== Sys2Proof/Machine/Params.lean ====
section
/-! DEFINITION. The parameters a model takes as arguments, as one configuration record (00_scope.md R6), and the
table of extension entries that overlays the base table (30_encoding.md R68). -/

namespace Sys2Proof.Machine

/-- What `resolve(mode)` returns (40_addressing_modes.md section 2). -/
inductive Opnd where
  | none
  | acc
  | imm (v : Byte)
  | mem (ea : Word) (crossed : Bool)
  | rel (target : Word) (crossed : Bool)
deriving DecidableEq, Repr

/-- What an extension entry does with its resolved operand, in a state whose `PC` holds the address of the
following instruction: the state it leaves and whether it branched, or nothing where it cannot use the operand,
which raises `InvalidAddressingModeUse` (40_addressing_modes.md R95, decision D25). -/
abbrev Semantics := Opnd → State → Option (State × Bool)

/-- An entry of `EXT_TABLE`: opcode -> (mnemonic, mode, base cycles, page-penalty class, semantics) (R6). "An
`EXT_TABLE` entry must bring its own semantics" (R68). The form of the semantics is log entry 17. -/
structure ExtEntry where
  opcode : Byte
  mnemonic : String
  mode : Mode
  cycles : Nat
  penalty : Penalty
  semantics : Semantics

/-- The configuration record of 00_scope.md R6: `M0`, `EXT_TABLE`, the two functions of `DECIMAL`, and
`JMP_IND_PAGE_WRAP`. None of it is state. -/
structure Params where
  m0 : Memory
  extTable : List ExtEntry
  decAdc : Byte → Byte → Bool → DecimalResult
  decSbc : Byte → Byte → Bool → DecimalResult
  jmpIndPageWrap : Bool

/-- The defaults of R6: no extension entry (decision D2, log entry 4), no page wrap (decision D9, log entry 3),
`DECIMAL` open (decision D4, log entry 2), and for `M0`, which has no default, the zero-filled memory of
20_memory.md R40 (decision D23, log entry 1). -/
def Params.standard : Params where
  m0 := []
  extTable := []
  decAdc := Config.decAdc
  decSbc := Config.decSbc
  jmpIndPageWrap := false

/-- The machine at launch, before its first `reset`: the image `M0` in memory, `life` = Uninitialized (R6, decision
D23, 10_state.md R29). -/
def Params.launch (p : Params) : State := { State.created with mem := p.m0 }

/-- The extension entry registered last for an opcode byte ("last-writer-wins", 30_encoding.md R67). -/
def extLookup : List ExtEntry → Byte → Option ExtEntry
  | [], _ => none
  | e :: es, b =>
    match extLookup es b with
    | some f => some f
    | none => if e.opcode == b then some e else none

end Sys2Proof.Machine
end

