-- ==== Sys2Proof/Machine/Operands.lean ====
section
/-! DEFINITION. Addressing-mode resolution (40_addressing_modes.md R82 to R94), the operand helpers (R95, R99),
the cycle charge (R96, R97), and the shapes the instruction rules share. -/

namespace Sys2Proof.Machine

/-- The target of JMP (indirect): the high byte from `ptr + 1`, or from the same page as the low byte when
`JMP_IND_PAGE_WRAP` is true (R91). -/
def indirectTarget (pageWrap : Bool) (ptr : Word) (s : State) : Word :=
  if pageWrap then wordOf (readByte s (wordOf (hiByte ptr) (loByte ptr + 1))) (readByte s ptr)
  else readWord s ptr

/-- An indexed address and whether the addition changed its high byte (R89, R90, R93). -/
def indexed (base : Word) (index : Byte) : Opnd :=
  let ea := base + zext16 index
  .mem ea (pageCrossed base ea)

/-- `resolve(mode)` on the machine with parameters `p`, in a state whose `PC` already holds the address of the
following instruction, the operand bytes having been assembled by the decoder. -/
def resolveIn (p : Params) (o : Operand) (s : State) : Opnd :=
  match o with
  | .imp => .none
  | .acc => .acc
  | .imm v => .imm v
  | .zp z => .mem (zext16 z) false
  | .zpx z => .mem (zext16 (z + s.x)) false
  | .zpy z => .mem (zext16 (z + s.y)) false
  | .abs w => .mem w false
  | .abx w => indexed w s.x
  | .aby w => indexed w s.y
  | .ind w => .mem (indirectTarget p.jmpIndPageWrap w s) false
  | .izx z => .mem (readZp16 s (z + s.x)) false
  | .izy z => indexed (readZp16 s z) s.y
  | .rel o => .rel (s.pc + sext16 o) (pageCrossed s.pc (s.pc + sext16 o))

/-- `resolve(mode)` with the default parameters. -/
def resolve (o : Operand) (s : State) : Opnd := resolveIn Params.standard o s

/-- `value(opnd)`: the 8-bit operand of a read instruction (R99). -/
def value (op : Opnd) (s : State) : Except Fault Byte :=
  match op with
  | .imm v => .ok v
  | .mem ea _ => .ok (readByte s ea)
  | .acc => .ok s.a
  | .none | .rel _ _ => .error .invalidAddressingModeUse

/-- `addr(opnd)`: the address of a write or read-modify-write instruction (R99). -/
def addr (op : Opnd) : Except Fault Word :=
  match op with
  | .mem ea _ => .ok ea
  | .none | .acc | .imm _ | .rel _ _ => .error .invalidAddressingModeUse

/-- `opnd.crossed`, 0 where the operand has none. -/
def Opnd.crossed : Opnd → Bool
  | .mem _ c | .rel _ c => c
  | .none | .acc | .imm _ => false

/-- The cost of a completed instruction (R96): base cycles, the page-cross penalty, the branch rule. -/
def charge (cycles : Nat) (pen : Penalty) (op : Opnd) (taken : Bool) : Nat :=
  cycles +
    match pen with
    | .none => 0
    | .pageCross => if op.crossed then 1 else 0
    | .branch => if taken then (if op.crossed then 2 else 1) else 0

/-- The operand bytes and the opcode byte read: `PC` holds the address of the following instruction. -/
def past (o : Operand) (s : State) : State := advancePc o.mode.length s

/-- The end of step 4 of R80: the cycles charged (the fetch cycle among them), `life <- Running`. -/
def retire (n : Nat) (s : State) : State := (tick n s).setLife .running

/-- A read instruction: `M = value(opnd)`, then its effect on the registers and flags. -/
def readShape (o : Operand) (cycles : Nat) (pen : Penalty) (effect : Byte → State → State) (s : State) : Result :=
  let s1 := past o s
  let op := resolve o s1
  match value op s1 with
  | .ok m => .next (retire (charge cycles pen op false) (effect m s1))
  | .error e => .fault e

/-- A write instruction: `MemWrite(addr(opnd), 1, v)`. -/
def writeShape (o : Operand) (cycles : Nat) (reg : State → Byte) (s : State) : Result :=
  let s1 := past o s
  let op := resolve o s1
  match addr op with
  | .ok ea => .next (retire (charge cycles .none op false) (writeByte s1 ea (reg s1)))
  | .error e => .fault e

/-- A read-modify-write instruction on memory (44_incdec_shift.md R160): one read and one write of the same
address, then the flags. -/
def rmwShape (o : Operand) (cycles : Nat) (f : Byte → Status → Byte × Status) (s : State) : Result :=
  let s1 := past o s
  let op := resolve o s1
  match addr op with
  | .ok ea =>
    let out := f (readByte s1 ea) s1.p
    .next (retire (charge cycles .none op false) ((writeByte s1 ea out.1).setP out.2))
  | .error e => .fault e

/-- The accumulator form of a shift or rotate: the result goes to `A`, no memory is touched (R83). -/
def accShape (cycles : Nat) (f : Byte → Status → Byte × Status) (s : State) : Result :=
  let s1 := past .acc s
  let out := f s1.a s1.p
  .next (retire (charge cycles .none .acc false) ((s1.setA out.1).setP out.2))

/-- An instruction of mode `imp`: its effect once `PC` has passed the opcode (R82). -/
def impliedShape (cycles : Nat) (effect : State → State) (s : State) : Result :=
  .next (retire (charge cycles .none .none false) (effect (past .imp s)))

/-- A jump or call to the target resolved with the parameters `p` (45_control_flow.md R170, R171). -/
def jumpShapeIn (p : Params) (o : Operand) (cycles : Nat) (effect : Word → State → State) (s : State) : Result :=
  let s1 := past o s
  let op := resolveIn p o s1
  match addr op with
  | .ok target => .next (retire (charge cycles .none op false) (effect target s1))
  | .error e => .fault e

/-- A jump or call with the default parameters. -/
def jumpShape (o : Operand) (cycles : Nat) (effect : Word → State → State) (s : State) : Result :=
  jumpShapeIn Params.standard o cycles effect s

/-- The shape of the eight branches (R181): `PC <- target` when the condition holds. -/
def branchShape (o : Byte) (cycles : Nat) (cond : Status → Bool) (s : State) : Result :=
  let s1 := past (.rel o) s
  let op := resolve (.rel o) s1
  match op with
  | .rel target _ =>
    .next (retire (charge cycles .branch op (cond s1.p)) (if cond s1.p then s1.setPc target else s1))
  | .none | .acc | .imm _ | .mem _ _ => .fault .invalidAddressingModeUse

end Sys2Proof.Machine
end

