-- ==== Sys2Proof/Machine/Arith.lean ====
section
/-! DEFINITION. Logic, arithmetic and compare instructions (43_logic_arith.md). -/

namespace Sys2Proof.Machine

/-- A result that goes to `A` and sets N and Z (R130 to R132). -/
def logicEffect (f : Byte → Byte → Byte) (m : Byte) (s : State) : State :=
  (s.setA (f s.a m)).setP (setNZ s.p (f s.a m))

/-- BIT: flags only (R133). -/
def bitEffect (m : Byte) (s : State) : State := s.setP (bitTest s.a m s.p)

/-- A result and flags from the adder (R134, R135). -/
def arithEffect (f : Byte → Byte → Status → Byte × Status) (m : Byte) (s : State) : State :=
  (s.setA (f s.a m s.p).1).setP (f s.a m s.p).2

/-- CMP, CPX, CPY: flags only (R136 to R138). -/
def compareEffect (reg : State → Byte) (m : Byte) (s : State) : State := s.setP (compareFlags (reg s) m s.p)

/-- AND #v: $29, 2 cycles (R130, R84). -/
def execAndImm (v : Byte) (s : State) : Result :=
  readShape (.imm v) 2 .none (logicEffect fun a m => a &&& m) s

/-- AND z: $25, 3 cycles (R130, R85). -/
def execAndZp (z : Byte) (s : State) : Result :=
  readShape (.zp z) 3 .none (logicEffect fun a m => a &&& m) s

/-- AND z,X: $35, 4 cycles (R130, R86). -/
def execAndZpx (z : Byte) (s : State) : Result :=
  readShape (.zpx z) 4 .none (logicEffect fun a m => a &&& m) s

/-- AND w: $2D, 4 cycles (R130, R88). -/
def execAndAbs (w : Word) (s : State) : Result :=
  readShape (.abs w) 4 .none (logicEffect fun a m => a &&& m) s

/-- AND w,X: $3D, 4+ cycles (R130, R89). -/
def execAndAbx (w : Word) (s : State) : Result :=
  readShape (.abx w) 4 .pageCross (logicEffect fun a m => a &&& m) s

/-- AND w,Y: $39, 4+ cycles (R130, R90). -/
def execAndAby (w : Word) (s : State) : Result :=
  readShape (.aby w) 4 .pageCross (logicEffect fun a m => a &&& m) s

/-- AND (z,X): $21, 6 cycles (R130, R92). -/
def execAndIzx (z : Byte) (s : State) : Result :=
  readShape (.izx z) 6 .none (logicEffect fun a m => a &&& m) s

/-- AND (z),Y: $31, 5+ cycles (R130, R93). -/
def execAndIzy (z : Byte) (s : State) : Result :=
  readShape (.izy z) 5 .pageCross (logicEffect fun a m => a &&& m) s

/-- ORA #v: $09, 2 cycles (R131, R84). -/
def execOraImm (v : Byte) (s : State) : Result :=
  readShape (.imm v) 2 .none (logicEffect fun a m => a ||| m) s

/-- ORA z: $05, 3 cycles (R131, R85). -/
def execOraZp (z : Byte) (s : State) : Result :=
  readShape (.zp z) 3 .none (logicEffect fun a m => a ||| m) s

/-- ORA z,X: $15, 4 cycles (R131, R86). -/
def execOraZpx (z : Byte) (s : State) : Result :=
  readShape (.zpx z) 4 .none (logicEffect fun a m => a ||| m) s

/-- ORA w: $0D, 4 cycles (R131, R88). -/
def execOraAbs (w : Word) (s : State) : Result :=
  readShape (.abs w) 4 .none (logicEffect fun a m => a ||| m) s

/-- ORA w,X: $1D, 4+ cycles (R131, R89). -/
def execOraAbx (w : Word) (s : State) : Result :=
  readShape (.abx w) 4 .pageCross (logicEffect fun a m => a ||| m) s

/-- ORA w,Y: $19, 4+ cycles (R131, R90). -/
def execOraAby (w : Word) (s : State) : Result :=
  readShape (.aby w) 4 .pageCross (logicEffect fun a m => a ||| m) s

/-- ORA (z,X): $01, 6 cycles (R131, R92). -/
def execOraIzx (z : Byte) (s : State) : Result :=
  readShape (.izx z) 6 .none (logicEffect fun a m => a ||| m) s

/-- ORA (z),Y: $11, 5+ cycles (R131, R93). -/
def execOraIzy (z : Byte) (s : State) : Result :=
  readShape (.izy z) 5 .pageCross (logicEffect fun a m => a ||| m) s

/-- EOR #v: $49, 2 cycles (R132, R84). -/
def execEorImm (v : Byte) (s : State) : Result :=
  readShape (.imm v) 2 .none (logicEffect fun a m => a ^^^ m) s

/-- EOR z: $45, 3 cycles (R132, R85). -/
def execEorZp (z : Byte) (s : State) : Result :=
  readShape (.zp z) 3 .none (logicEffect fun a m => a ^^^ m) s

/-- EOR z,X: $55, 4 cycles (R132, R86). -/
def execEorZpx (z : Byte) (s : State) : Result :=
  readShape (.zpx z) 4 .none (logicEffect fun a m => a ^^^ m) s

/-- EOR w: $4D, 4 cycles (R132, R88). -/
def execEorAbs (w : Word) (s : State) : Result :=
  readShape (.abs w) 4 .none (logicEffect fun a m => a ^^^ m) s

/-- EOR w,X: $5D, 4+ cycles (R132, R89). -/
def execEorAbx (w : Word) (s : State) : Result :=
  readShape (.abx w) 4 .pageCross (logicEffect fun a m => a ^^^ m) s

/-- EOR w,Y: $59, 4+ cycles (R132, R90). -/
def execEorAby (w : Word) (s : State) : Result :=
  readShape (.aby w) 4 .pageCross (logicEffect fun a m => a ^^^ m) s

/-- EOR (z,X): $41, 6 cycles (R132, R92). -/
def execEorIzx (z : Byte) (s : State) : Result :=
  readShape (.izx z) 6 .none (logicEffect fun a m => a ^^^ m) s

/-- EOR (z),Y: $51, 5+ cycles (R132, R93). -/
def execEorIzy (z : Byte) (s : State) : Result :=
  readShape (.izy z) 5 .pageCross (logicEffect fun a m => a ^^^ m) s

/-- BIT z: $24, 3 cycles (R133, R85). -/
def execBitZp (z : Byte) (s : State) : Result :=
  readShape (.zp z) 3 .none bitEffect s

/-- BIT w: $2C, 4 cycles (R133, R88). -/
def execBitAbs (w : Word) (s : State) : Result :=
  readShape (.abs w) 4 .none bitEffect s

/-- ADC #v: $69, 2 cycles (R134, R84). Of the parameters it uses `DECIMAL`. -/
def execAdcImmIn (p : Params) (v : Byte) (s : State) : Result :=
  readShape (.imm v) 2 .none (arithEffect (adcWith p.decAdc)) s

/-- `execAdcImmIn` with the default parameters. -/
def execAdcImm (v : Byte) (s : State) : Result := execAdcImmIn Params.standard v s

/-- ADC z: $65, 3 cycles (R134, R85). Of the parameters it uses `DECIMAL`. -/
def execAdcZpIn (p : Params) (z : Byte) (s : State) : Result :=
  readShape (.zp z) 3 .none (arithEffect (adcWith p.decAdc)) s

/-- `execAdcZpIn` with the default parameters. -/
def execAdcZp (z : Byte) (s : State) : Result := execAdcZpIn Params.standard z s

/-- ADC z,X: $75, 4 cycles (R134, R86). Of the parameters it uses `DECIMAL`. -/
def execAdcZpxIn (p : Params) (z : Byte) (s : State) : Result :=
  readShape (.zpx z) 4 .none (arithEffect (adcWith p.decAdc)) s

/-- `execAdcZpxIn` with the default parameters. -/
def execAdcZpx (z : Byte) (s : State) : Result := execAdcZpxIn Params.standard z s

/-- ADC w: $6D, 4 cycles (R134, R88). Of the parameters it uses `DECIMAL`. -/
def execAdcAbsIn (p : Params) (w : Word) (s : State) : Result :=
  readShape (.abs w) 4 .none (arithEffect (adcWith p.decAdc)) s

/-- `execAdcAbsIn` with the default parameters. -/
def execAdcAbs (w : Word) (s : State) : Result := execAdcAbsIn Params.standard w s

/-- ADC w,X: $7D, 4+ cycles (R134, R89). Of the parameters it uses `DECIMAL`. -/
def execAdcAbxIn (p : Params) (w : Word) (s : State) : Result :=
  readShape (.abx w) 4 .pageCross (arithEffect (adcWith p.decAdc)) s

/-- `execAdcAbxIn` with the default parameters. -/
def execAdcAbx (w : Word) (s : State) : Result := execAdcAbxIn Params.standard w s

/-- ADC w,Y: $79, 4+ cycles (R134, R90). Of the parameters it uses `DECIMAL`. -/
def execAdcAbyIn (p : Params) (w : Word) (s : State) : Result :=
  readShape (.aby w) 4 .pageCross (arithEffect (adcWith p.decAdc)) s

/-- `execAdcAbyIn` with the default parameters. -/
def execAdcAby (w : Word) (s : State) : Result := execAdcAbyIn Params.standard w s

/-- ADC (z,X): $61, 6 cycles (R134, R92). Of the parameters it uses `DECIMAL`. -/
def execAdcIzxIn (p : Params) (z : Byte) (s : State) : Result :=
  readShape (.izx z) 6 .none (arithEffect (adcWith p.decAdc)) s

/-- `execAdcIzxIn` with the default parameters. -/
def execAdcIzx (z : Byte) (s : State) : Result := execAdcIzxIn Params.standard z s

/-- ADC (z),Y: $71, 5+ cycles (R134, R93). Of the parameters it uses `DECIMAL`. -/
def execAdcIzyIn (p : Params) (z : Byte) (s : State) : Result :=
  readShape (.izy z) 5 .pageCross (arithEffect (adcWith p.decAdc)) s

/-- `execAdcIzyIn` with the default parameters. -/
def execAdcIzy (z : Byte) (s : State) : Result := execAdcIzyIn Params.standard z s

/-- SBC #v: $E9, 2 cycles (R135, R84). Of the parameters it uses `DECIMAL`. -/
def execSbcImmIn (p : Params) (v : Byte) (s : State) : Result :=
  readShape (.imm v) 2 .none (arithEffect (sbcWith p.decSbc)) s

/-- `execSbcImmIn` with the default parameters. -/
def execSbcImm (v : Byte) (s : State) : Result := execSbcImmIn Params.standard v s

/-- SBC z: $E5, 3 cycles (R135, R85). Of the parameters it uses `DECIMAL`. -/
def execSbcZpIn (p : Params) (z : Byte) (s : State) : Result :=
  readShape (.zp z) 3 .none (arithEffect (sbcWith p.decSbc)) s

/-- `execSbcZpIn` with the default parameters. -/
def execSbcZp (z : Byte) (s : State) : Result := execSbcZpIn Params.standard z s

/-- SBC z,X: $F5, 4 cycles (R135, R86). Of the parameters it uses `DECIMAL`. -/
def execSbcZpxIn (p : Params) (z : Byte) (s : State) : Result :=
  readShape (.zpx z) 4 .none (arithEffect (sbcWith p.decSbc)) s

/-- `execSbcZpxIn` with the default parameters. -/
def execSbcZpx (z : Byte) (s : State) : Result := execSbcZpxIn Params.standard z s

/-- SBC w: $ED, 4 cycles (R135, R88). Of the parameters it uses `DECIMAL`. -/
def execSbcAbsIn (p : Params) (w : Word) (s : State) : Result :=
  readShape (.abs w) 4 .none (arithEffect (sbcWith p.decSbc)) s

/-- `execSbcAbsIn` with the default parameters. -/
def execSbcAbs (w : Word) (s : State) : Result := execSbcAbsIn Params.standard w s

/-- SBC w,X: $FD, 4+ cycles (R135, R89). Of the parameters it uses `DECIMAL`. -/
def execSbcAbxIn (p : Params) (w : Word) (s : State) : Result :=
  readShape (.abx w) 4 .pageCross (arithEffect (sbcWith p.decSbc)) s

/-- `execSbcAbxIn` with the default parameters. -/
def execSbcAbx (w : Word) (s : State) : Result := execSbcAbxIn Params.standard w s

/-- SBC w,Y: $F9, 4+ cycles (R135, R90). Of the parameters it uses `DECIMAL`. -/
def execSbcAbyIn (p : Params) (w : Word) (s : State) : Result :=
  readShape (.aby w) 4 .pageCross (arithEffect (sbcWith p.decSbc)) s

/-- `execSbcAbyIn` with the default parameters. -/
def execSbcAby (w : Word) (s : State) : Result := execSbcAbyIn Params.standard w s

/-- SBC (z,X): $E1, 6 cycles (R135, R92). Of the parameters it uses `DECIMAL`. -/
def execSbcIzxIn (p : Params) (z : Byte) (s : State) : Result :=
  readShape (.izx z) 6 .none (arithEffect (sbcWith p.decSbc)) s

/-- `execSbcIzxIn` with the default parameters. -/
def execSbcIzx (z : Byte) (s : State) : Result := execSbcIzxIn Params.standard z s

/-- SBC (z),Y: $F1, 5+ cycles (R135, R93). Of the parameters it uses `DECIMAL`. -/
def execSbcIzyIn (p : Params) (z : Byte) (s : State) : Result :=
  readShape (.izy z) 5 .pageCross (arithEffect (sbcWith p.decSbc)) s

/-- `execSbcIzyIn` with the default parameters. -/
def execSbcIzy (z : Byte) (s : State) : Result := execSbcIzyIn Params.standard z s

/-- CMP #v: $C9, 2 cycles (R136, R84). -/
def execCmpImm (v : Byte) (s : State) : Result :=
  readShape (.imm v) 2 .none (compareEffect State.a) s

/-- CMP z: $C5, 3 cycles (R136, R85). -/
def execCmpZp (z : Byte) (s : State) : Result :=
  readShape (.zp z) 3 .none (compareEffect State.a) s

/-- CMP z,X: $D5, 4 cycles (R136, R86). -/
def execCmpZpx (z : Byte) (s : State) : Result :=
  readShape (.zpx z) 4 .none (compareEffect State.a) s

/-- CMP w: $CD, 4 cycles (R136, R88). -/
def execCmpAbs (w : Word) (s : State) : Result :=
  readShape (.abs w) 4 .none (compareEffect State.a) s

/-- CMP w,X: $DD, 4+ cycles (R136, R89). -/
def execCmpAbx (w : Word) (s : State) : Result :=
  readShape (.abx w) 4 .pageCross (compareEffect State.a) s

/-- CMP w,Y: $D9, 4+ cycles (R136, R90). -/
def execCmpAby (w : Word) (s : State) : Result :=
  readShape (.aby w) 4 .pageCross (compareEffect State.a) s

/-- CMP (z,X): $C1, 6 cycles (R136, R92). -/
def execCmpIzx (z : Byte) (s : State) : Result :=
  readShape (.izx z) 6 .none (compareEffect State.a) s

/-- CMP (z),Y: $D1, 5+ cycles (R136, R93). -/
def execCmpIzy (z : Byte) (s : State) : Result :=
  readShape (.izy z) 5 .pageCross (compareEffect State.a) s

/-- CPX #v: $E0, 2 cycles (R137, R84). -/
def execCpxImm (v : Byte) (s : State) : Result :=
  readShape (.imm v) 2 .none (compareEffect State.x) s

/-- CPX z: $E4, 3 cycles (R137, R85). -/
def execCpxZp (z : Byte) (s : State) : Result :=
  readShape (.zp z) 3 .none (compareEffect State.x) s

/-- CPX w: $EC, 4 cycles (R137, R88). -/
def execCpxAbs (w : Word) (s : State) : Result :=
  readShape (.abs w) 4 .none (compareEffect State.x) s

/-- CPY #v: $C0, 2 cycles (R138, R84). -/
def execCpyImm (v : Byte) (s : State) : Result :=
  readShape (.imm v) 2 .none (compareEffect State.y) s

/-- CPY z: $C4, 3 cycles (R138, R85). -/
def execCpyZp (z : Byte) (s : State) : Result :=
  readShape (.zp z) 3 .none (compareEffect State.y) s

/-- CPY w: $CC, 4 cycles (R138, R88). -/
def execCpyAbs (w : Word) (s : State) : Result :=
  readShape (.abs w) 4 .none (compareEffect State.y) s

end Sys2Proof.Machine
end

