-- ==== Sys2Proof/Machine/Control.lean ====
section
/-! DEFINITION. Jumps, subroutine calls and branches (45_control_flow.md). -/

namespace Sys2Proof.Machine

/-- JMP w: $4C, 3 cycles (R170, R88). -/
def execJmpAbs (w : Word) (s : State) : Result :=
  jumpShape (.abs w) 3 (fun target t => t.setPc target) s

/-- JMP (w): $6C, 5 cycles (R170, R91). Of the parameters it uses `JMP_IND_PAGE_WRAP`. -/
def execJmpIndIn (p : Params) (w : Word) (s : State) : Result :=
  jumpShapeIn p (.ind w) 5 (fun target t => t.setPc target) s

/-- `execJmpIndIn` with the default parameters. -/
def execJmpInd (w : Word) (s : State) : Result := execJmpIndIn Params.standard w s

/-- JSR w: $20, 6 cycles (R171, R88). -/
def execJsr (w : Word) (s : State) : Result :=
  jumpShape (.abs w) 6 (fun target t => (push16 t (t.pc - 1)).setPc target) s

/-- RTS: $60, 6 cycles (R172, R82). -/
def execRts (s : State) : Result :=
  impliedShape 6 (fun t => (pull16 t).setPc (pulled16 t + 1)) s

/-- BCC o: $90, 2 cycles (R173, R94). -/
def execBcc (o : Byte) (s : State) : Result :=
  branchShape o 2 (fun p => !p.c) s

/-- BCS o: $B0, 2 cycles (R174, R94). -/
def execBcs (o : Byte) (s : State) : Result :=
  branchShape o 2 (fun p => p.c) s

/-- BEQ o: $F0, 2 cycles (R175, R94). -/
def execBeq (o : Byte) (s : State) : Result :=
  branchShape o 2 (fun p => p.z) s

/-- BNE o: $D0, 2 cycles (R176, R94). -/
def execBne (o : Byte) (s : State) : Result :=
  branchShape o 2 (fun p => !p.z) s

/-- BMI o: $30, 2 cycles (R177, R94). -/
def execBmi (o : Byte) (s : State) : Result :=
  branchShape o 2 (fun p => p.n) s

/-- BPL o: $10, 2 cycles (R178, R94). -/
def execBpl (o : Byte) (s : State) : Result :=
  branchShape o 2 (fun p => !p.n) s

/-- BVC o: $50, 2 cycles (R179, R94). -/
def execBvc (o : Byte) (s : State) : Result :=
  branchShape o 2 (fun p => !p.v) s

/-- BVS o: $70, 2 cycles (R180, R94). -/
def execBvs (o : Byte) (s : State) : Result :=
  branchShape o 2 (fun p => p.v) s

end Sys2Proof.Machine
end

