-- ==== Sys2Proof/Machine/LoadStore.lean ====
section
/-! DEFINITION. Load, store and register-transfer instructions (41_load_store_transfer.md). -/

namespace Sys2Proof.Machine

/-- LDA: `A <- M`, `setNZ(M)` (R100). -/
def ldaEffect (m : Byte) (s : State) : State := (s.setA m).setP (setNZ s.p m)

/-- LDX: `X <- M`, `setNZ(M)` (R101). -/
def ldxEffect (m : Byte) (s : State) : State := (s.setX m).setP (setNZ s.p m)

/-- LDY: `Y <- M`, `setNZ(M)` (R102). -/
def ldyEffect (m : Byte) (s : State) : State := (s.setY m).setP (setNZ s.p m)

/-- LDA #v: $A9, 2 cycles (R100, R84). -/
def execLdaImm (v : Byte) (s : State) : Result :=
  readShape (.imm v) 2 .none ldaEffect s

/-- LDA z: $A5, 3 cycles (R100, R85). -/
def execLdaZp (z : Byte) (s : State) : Result :=
  readShape (.zp z) 3 .none ldaEffect s

/-- LDA z,X: $B5, 4 cycles (R100, R86). -/
def execLdaZpx (z : Byte) (s : State) : Result :=
  readShape (.zpx z) 4 .none ldaEffect s

/-- LDA w: $AD, 4 cycles (R100, R88). -/
def execLdaAbs (w : Word) (s : State) : Result :=
  readShape (.abs w) 4 .none ldaEffect s

/-- LDA w,X: $BD, 4+ cycles (R100, R89). -/
def execLdaAbx (w : Word) (s : State) : Result :=
  readShape (.abx w) 4 .pageCross ldaEffect s

/-- LDA w,Y: $B9, 4+ cycles (R100, R90). -/
def execLdaAby (w : Word) (s : State) : Result :=
  readShape (.aby w) 4 .pageCross ldaEffect s

/-- LDA (z,X): $A1, 6 cycles (R100, R92). -/
def execLdaIzx (z : Byte) (s : State) : Result :=
  readShape (.izx z) 6 .none ldaEffect s

/-- LDA (z),Y: $B1, 5+ cycles (R100, R93). -/
def execLdaIzy (z : Byte) (s : State) : Result :=
  readShape (.izy z) 5 .pageCross ldaEffect s

/-- LDX #v: $A2, 2 cycles (R101, R84). -/
def execLdxImm (v : Byte) (s : State) : Result :=
  readShape (.imm v) 2 .none ldxEffect s

/-- LDX z: $A6, 3 cycles (R101, R85). -/
def execLdxZp (z : Byte) (s : State) : Result :=
  readShape (.zp z) 3 .none ldxEffect s

/-- LDX z,Y: $B6, 4 cycles (R101, R87). -/
def execLdxZpy (z : Byte) (s : State) : Result :=
  readShape (.zpy z) 4 .none ldxEffect s

/-- LDX w: $AE, 4 cycles (R101, R88). -/
def execLdxAbs (w : Word) (s : State) : Result :=
  readShape (.abs w) 4 .none ldxEffect s

/-- LDX w,Y: $BE, 4+ cycles (R101, R90). -/
def execLdxAby (w : Word) (s : State) : Result :=
  readShape (.aby w) 4 .pageCross ldxEffect s

/-- LDY #v: $A0, 2 cycles (R102, R84). -/
def execLdyImm (v : Byte) (s : State) : Result :=
  readShape (.imm v) 2 .none ldyEffect s

/-- LDY z: $A4, 3 cycles (R102, R85). -/
def execLdyZp (z : Byte) (s : State) : Result :=
  readShape (.zp z) 3 .none ldyEffect s

/-- LDY z,X: $B4, 4 cycles (R102, R86). -/
def execLdyZpx (z : Byte) (s : State) : Result :=
  readShape (.zpx z) 4 .none ldyEffect s

/-- LDY w: $AC, 4 cycles (R102, R88). -/
def execLdyAbs (w : Word) (s : State) : Result :=
  readShape (.abs w) 4 .none ldyEffect s

/-- LDY w,X: $BC, 4+ cycles (R102, R89). -/
def execLdyAbx (w : Word) (s : State) : Result :=
  readShape (.abx w) 4 .pageCross ldyEffect s

/-- STA z: $85, 3 cycles (R103, R85). -/
def execStaZp (z : Byte) (s : State) : Result :=
  writeShape (.zp z) 3 State.a s

/-- STA z,X: $95, 4 cycles (R103, R86). -/
def execStaZpx (z : Byte) (s : State) : Result :=
  writeShape (.zpx z) 4 State.a s

/-- STA w: $8D, 4 cycles (R103, R88). -/
def execStaAbs (w : Word) (s : State) : Result :=
  writeShape (.abs w) 4 State.a s

/-- STA w,X: $9D, 5 cycles (R103, R89). -/
def execStaAbx (w : Word) (s : State) : Result :=
  writeShape (.abx w) 5 State.a s

/-- STA w,Y: $99, 5 cycles (R103, R90). -/
def execStaAby (w : Word) (s : State) : Result :=
  writeShape (.aby w) 5 State.a s

/-- STA (z,X): $81, 6 cycles (R103, R92). -/
def execStaIzx (z : Byte) (s : State) : Result :=
  writeShape (.izx z) 6 State.a s

/-- STA (z),Y: $91, 6 cycles (R103, R93). -/
def execStaIzy (z : Byte) (s : State) : Result :=
  writeShape (.izy z) 6 State.a s

/-- STX z: $86, 3 cycles (R104, R85). -/
def execStxZp (z : Byte) (s : State) : Result :=
  writeShape (.zp z) 3 State.x s

/-- STX z,Y: $96, 4 cycles (R104, R87). -/
def execStxZpy (z : Byte) (s : State) : Result :=
  writeShape (.zpy z) 4 State.x s

/-- STX w: $8E, 4 cycles (R104, R88). -/
def execStxAbs (w : Word) (s : State) : Result :=
  writeShape (.abs w) 4 State.x s

/-- STY z: $84, 3 cycles (R105, R85). -/
def execStyZp (z : Byte) (s : State) : Result :=
  writeShape (.zp z) 3 State.y s

/-- STY z,X: $94, 4 cycles (R105, R86). -/
def execStyZpx (z : Byte) (s : State) : Result :=
  writeShape (.zpx z) 4 State.y s

/-- STY w: $8C, 4 cycles (R105, R88). -/
def execStyAbs (w : Word) (s : State) : Result :=
  writeShape (.abs w) 4 State.y s

/-- TAX: $AA, 2 cycles (R106, R82). -/
def execTax (s : State) : Result :=
  impliedShape 2 (fun t => (t.setX t.a).setP (setNZ t.p t.a)) s

/-- TAY: $A8, 2 cycles (R107, R82). -/
def execTay (s : State) : Result :=
  impliedShape 2 (fun t => (t.setY t.a).setP (setNZ t.p t.a)) s

/-- TXA: $8A, 2 cycles (R108, R82). -/
def execTxa (s : State) : Result :=
  impliedShape 2 (fun t => (t.setA t.x).setP (setNZ t.p t.x)) s

/-- TYA: $98, 2 cycles (R109, R82). -/
def execTya (s : State) : Result :=
  impliedShape 2 (fun t => (t.setA t.y).setP (setNZ t.p t.y)) s

/-- TSX: $BA, 2 cycles (R110, R82). -/
def execTsx (s : State) : Result :=
  impliedShape 2 (fun t => (t.setX t.sp).setP (setNZ t.p t.sp)) s

/-- TXS: $9A, 2 cycles (R111, R82). -/
def execTxs (s : State) : Result :=
  impliedShape 2 (fun t => t.setSp t.x) s

end Sys2Proof.Machine
end

