-- ==== Sys2Proof/Machine/Shift.lean ====
section
/-! DEFINITION. Increment, decrement, shift and rotate instructions (44_incdec_shift.md). -/

namespace Sys2Proof.Machine

/-- INC: `r = (m + 1) mod 256`, `setNZ(r)` (R150). -/
def incByte (m : Byte) (p : Status) : Byte × Status := (m + 1, setNZ p (m + 1))

/-- DEC: `r = (m - 1) mod 256`, `setNZ(r)` (R151). -/
def decByte (m : Byte) (p : Status) : Byte × Status := (m - 1, setNZ p (m - 1))

/-- A shift or rotate: the result, `P.C <- c`, `setNZ(r)` (44_incdec_shift.md section 3). -/
def shiftByte (f : Byte → Bool → Byte × Bool) (m : Byte) (p : Status) : Byte × Status :=
  ((f m p.c).1, shiftFlags p (f m p.c).1 (f m p.c).2)

/-- INC z: $E6, 5 cycles (R150, R85). -/
def execIncZp (z : Byte) (s : State) : Result :=
  rmwShape (.zp z) 5 incByte s

/-- INC z,X: $F6, 6 cycles (R150, R86). -/
def execIncZpx (z : Byte) (s : State) : Result :=
  rmwShape (.zpx z) 6 incByte s

/-- INC w: $EE, 6 cycles (R150, R88). -/
def execIncAbs (w : Word) (s : State) : Result :=
  rmwShape (.abs w) 6 incByte s

/-- INC w,X: $FE, 7 cycles (R150, R89). -/
def execIncAbx (w : Word) (s : State) : Result :=
  rmwShape (.abx w) 7 incByte s

/-- DEC z: $C6, 5 cycles (R151, R85). -/
def execDecZp (z : Byte) (s : State) : Result :=
  rmwShape (.zp z) 5 decByte s

/-- DEC z,X: $D6, 6 cycles (R151, R86). -/
def execDecZpx (z : Byte) (s : State) : Result :=
  rmwShape (.zpx z) 6 decByte s

/-- DEC w: $CE, 6 cycles (R151, R88). -/
def execDecAbs (w : Word) (s : State) : Result :=
  rmwShape (.abs w) 6 decByte s

/-- DEC w,X: $DE, 7 cycles (R151, R89). -/
def execDecAbx (w : Word) (s : State) : Result :=
  rmwShape (.abx w) 7 decByte s

/-- INX: $E8, 2 cycles (R152, R82). -/
def execInx (s : State) : Result :=
  impliedShape 2 (fun t => (t.setX (t.x + 1)).setP (setNZ t.p (t.x + 1))) s

/-- INY: $C8, 2 cycles (R153, R82). -/
def execIny (s : State) : Result :=
  impliedShape 2 (fun t => (t.setY (t.y + 1)).setP (setNZ t.p (t.y + 1))) s

/-- DEX: $CA, 2 cycles (R154, R82). -/
def execDex (s : State) : Result :=
  impliedShape 2 (fun t => (t.setX (t.x - 1)).setP (setNZ t.p (t.x - 1))) s

/-- DEY: $88, 2 cycles (R155, R82). -/
def execDey (s : State) : Result :=
  impliedShape 2 (fun t => (t.setY (t.y - 1)).setP (setNZ t.p (t.y - 1))) s

/-- ASL A: $0A, 2 cycles (R156, R83). -/
def execAslAcc (s : State) : Result :=
  accShape 2 (shiftByte asl) s

/-- ASL z: $06, 5 cycles (R156, R85). -/
def execAslZp (z : Byte) (s : State) : Result :=
  rmwShape (.zp z) 5 (shiftByte asl) s

/-- ASL z,X: $16, 6 cycles (R156, R86). -/
def execAslZpx (z : Byte) (s : State) : Result :=
  rmwShape (.zpx z) 6 (shiftByte asl) s

/-- ASL w: $0E, 6 cycles (R156, R88). -/
def execAslAbs (w : Word) (s : State) : Result :=
  rmwShape (.abs w) 6 (shiftByte asl) s

/-- ASL w,X: $1E, 7 cycles (R156, R89). -/
def execAslAbx (w : Word) (s : State) : Result :=
  rmwShape (.abx w) 7 (shiftByte asl) s

/-- LSR A: $4A, 2 cycles (R157, R83). -/
def execLsrAcc (s : State) : Result :=
  accShape 2 (shiftByte lsr) s

/-- LSR z: $46, 5 cycles (R157, R85). -/
def execLsrZp (z : Byte) (s : State) : Result :=
  rmwShape (.zp z) 5 (shiftByte lsr) s

/-- LSR z,X: $56, 6 cycles (R157, R86). -/
def execLsrZpx (z : Byte) (s : State) : Result :=
  rmwShape (.zpx z) 6 (shiftByte lsr) s

/-- LSR w: $4E, 6 cycles (R157, R88). -/
def execLsrAbs (w : Word) (s : State) : Result :=
  rmwShape (.abs w) 6 (shiftByte lsr) s

/-- LSR w,X: $5E, 7 cycles (R157, R89). -/
def execLsrAbx (w : Word) (s : State) : Result :=
  rmwShape (.abx w) 7 (shiftByte lsr) s

/-- ROL A: $2A, 2 cycles (R158, R83). -/
def execRolAcc (s : State) : Result :=
  accShape 2 (shiftByte rol) s

/-- ROL z: $26, 5 cycles (R158, R85). -/
def execRolZp (z : Byte) (s : State) : Result :=
  rmwShape (.zp z) 5 (shiftByte rol) s

/-- ROL z,X: $36, 6 cycles (R158, R86). -/
def execRolZpx (z : Byte) (s : State) : Result :=
  rmwShape (.zpx z) 6 (shiftByte rol) s

/-- ROL w: $2E, 6 cycles (R158, R88). -/
def execRolAbs (w : Word) (s : State) : Result :=
  rmwShape (.abs w) 6 (shiftByte rol) s

/-- ROL w,X: $3E, 7 cycles (R158, R89). -/
def execRolAbx (w : Word) (s : State) : Result :=
  rmwShape (.abx w) 7 (shiftByte rol) s

/-- ROR A: $6A, 2 cycles (R159, R83). -/
def execRorAcc (s : State) : Result :=
  accShape 2 (shiftByte ror) s

/-- ROR z: $66, 5 cycles (R159, R85). -/
def execRorZp (z : Byte) (s : State) : Result :=
  rmwShape (.zp z) 5 (shiftByte ror) s

/-- ROR z,X: $76, 6 cycles (R159, R86). -/
def execRorZpx (z : Byte) (s : State) : Result :=
  rmwShape (.zpx z) 6 (shiftByte ror) s

/-- ROR w: $6E, 6 cycles (R159, R88). -/
def execRorAbs (w : Word) (s : State) : Result :=
  rmwShape (.abs w) 6 (shiftByte ror) s

/-- ROR w,X: $7E, 7 cycles (R159, R89). -/
def execRorAbx (w : Word) (s : State) : Result :=
  rmwShape (.abx w) 7 (shiftByte ror) s

end Sys2Proof.Machine
end

