-- ==== Sys2Proof/Machine/Stack.lean ====
section
/-! DEFINITION. Stack instructions (42_stack.md). -/

namespace Sys2Proof.Machine

/-- PHA: $48, 3 cycles (R120, R82). -/
def execPha (s : State) : Result :=
  impliedShape 3 (fun t => push8 t t.a) s

/-- PHP: $08, 3 cycles (R121, R82). -/
def execPhp (s : State) : Result :=
  impliedShape 3 (fun t => push8 t (pByte t.p true)) s

/-- PLA: $68, 4 cycles (R122, R82). -/
def execPla (s : State) : Result :=
  impliedShape 4 (fun t => ((pull8 t).setA (pulled8 t)).setP (setNZ t.p (pulled8 t))) s

/-- PLP: $28, 4 cycles (R123, R82). -/
def execPlp (s : State) : Result :=
  impliedShape 4 (fun t => (pull8 t).setP (pLoad t.p (pulled8 t))) s

end Sys2Proof.Machine
end

