-- ==== Sys2Proof/Machine/System.lean ====
section
/-! DEFINITION. Flag, no-operation and system instructions (46_flag_system.md). -/

namespace Sys2Proof.Machine

/-- CLC: $18, 2 cycles (R190, R82). -/
def execClc (s : State) : Result :=
  impliedShape 2 (fun t => t.setP { t.p with c := false }) s

/-- SEC: $38, 2 cycles (R191, R82). -/
def execSec (s : State) : Result :=
  impliedShape 2 (fun t => t.setP { t.p with c := true }) s

/-- CLI: $58, 2 cycles (R192, R82). -/
def execCli (s : State) : Result :=
  impliedShape 2 (fun t => t.setP { t.p with i := false }) s

/-- SEI: $78, 2 cycles (R193, R82). -/
def execSei (s : State) : Result :=
  impliedShape 2 (fun t => t.setP { t.p with i := true }) s

/-- CLD: $D8, 2 cycles (R194, R82). -/
def execCld (s : State) : Result :=
  impliedShape 2 (fun t => t.setP { t.p with d := false }) s

/-- SED: $F8, 2 cycles (R195, R82). -/
def execSed (s : State) : Result :=
  impliedShape 2 (fun t => t.setP { t.p with d := true }) s

/-- CLV: $B8, 2 cycles (R196, R82). -/
def execClv (s : State) : Result :=
  impliedShape 2 (fun t => t.setP { t.p with v := false }) s

/-- NOP: $EA, 2 cycles (R197, R82). -/
def execNop (s : State) : Result :=
  impliedShape 2 (fun t => t) s

/-- BRK: $00, 7 cycles (R198, R82). -/
def execBrk (s : State) : Result :=
  impliedShape 7 (fun t => interruptEntry irqVector true (advancePc 1 t)) s

/-- RTI: $40, 6 cycles (R199, R82). -/
def execRti (s : State) : Result :=
  impliedShape 6 interruptReturn s

end Sys2Proof.Machine
end

