-- ==== Sys2Proof/Machine/Fetch.lean ====
section
/-! DEFINITION. Fetching and decoding the instruction at `PC` (40_addressing_modes.md R80, R81), what `step`
reports when there is none, and the state a faulting `step` leaves (60_exceptions.md R211, R212). -/

namespace Sys2Proof.Machine

/-- The opcode byte at `PC`. -/
def opcodeAt (s : State) : Byte := readByte s s.pc

/-- The instruction at `PC`: its bytes are read at ascending addresses, mod 65536 (R80, R81). The two bytes
after the opcode are always handed to the decoder; a read has no side effect (R41), so those the mode
does not use are not seen. Log entry 7. -/
def fetchInstr (s : State) : Except DecodeError Instr :=
  decode (opcodeAt s) (readByte s (s.pc + 1)) (readByte s (s.pc + 2))

/-- The fault of a byte that is no instruction (R211), or of a malformed table row (R212). -/
def decodeFault (e : DecodeError) (s : State) : Fault :=
  match e with
  | .unknownOpcode b => .unknownOpcode b s.pc
  | .malformedRow _ _ => .invalidAddressingModeUse

/-- The mode of the row that the active table, the base table overlaid with `EXT_TABLE`, holds for an opcode byte
(30_encoding.md R68). -/
def activeMode (p : Params) (b : Byte) : Option Mode :=
  match extLookup p.extTable b with
  | some e => some e.mode
  | none => (lookup base6502 b).map Row.mode

/-- How many bytes were read when a step is abandoned: the opcode byte alone for `UnknownOpcode` (R211), the
whole instruction for `InvalidAddressingModeUse` (R212, decision D25). -/
def bytesReadAtFault (p : Params) (r : Fault) (s : State) : Nat :=
  match r with
  | .unknownOpcode _ _ => 1
  | .invalidAddressingModeUse => ((activeMode p (opcodeAt s)).map Mode.length).getD 1

/-- The state after a fault: `PC` and `cycles` advanced by the bytes read, `life` = Faulted, nothing else
changed (R211, R212). Log entries 8 and 13. -/
def faultState (p : Params) (r : Fault) (s : State) : State :=
  (tick (bytesReadAtFault p r s) (advancePc (bytesReadAtFault p r s) s)).setLife .faulted

/-- Store `n` bytes of `w`, its lowest byte first, at ascending addresses from `addr`. -/
def storeBytes : Nat → Nat → Word → State → State
  | 0, _, _, s => s
  | n + 1, w, addr, s => storeBytes n (w / 256) (addr + 1) (writeByte s addr (BitVec.ofNat 8 w))

/-- The longest instruction, in bytes (R63). -/
def longestInstr : Nat := 3

end Sys2Proof.Machine
end

