-- ==== Sys2Proof/Machine/Variant.lean ====
section
/-! DEFINITION. The machine as a function of its parameters (00_scope.md R6): execution, the extension entries that
overlay the base table (30_encoding.md R68), and `step()` (40_addressing_modes.md R80). -/

namespace Sys2Proof.Machine

/-- An instruction of the base table on the machine with parameters `p`: ADC and SBC use `DECIMAL` (43_logic_arith.md
R139), JMP (indirect) uses `JMP_IND_PAGE_WRAP` (40_addressing_modes.md R91), no other instruction uses a parameter. -/
def execIn (p : Params) (i : Instr) (s : State) : Result :=
  match i with
  | .adcImm v => execAdcImmIn p v s
  | .adcZp z => execAdcZpIn p z s
  | .adcZpx z => execAdcZpxIn p z s
  | .adcAbs w => execAdcAbsIn p w s
  | .adcAbx w => execAdcAbxIn p w s
  | .adcAby w => execAdcAbyIn p w s
  | .adcIzx z => execAdcIzxIn p z s
  | .adcIzy z => execAdcIzyIn p z s
  | .sbcImm v => execSbcImmIn p v s
  | .sbcZp z => execSbcZpIn p z s
  | .sbcZpx z => execSbcZpxIn p z s
  | .sbcAbs w => execSbcAbsIn p w s
  | .sbcAbx w => execSbcAbxIn p w s
  | .sbcAby w => execSbcAbyIn p w s
  | .sbcIzx z => execSbcIzxIn p z s
  | .sbcIzy z => execSbcIzyIn p z s
  | .jmpInd w => execJmpIndIn p w s
  | .ldaImm _ | .ldaZp _ | .ldaZpx _ | .ldaAbs _ | .ldaAbx _ | .ldaAby _ | .ldaIzx _ | .ldaIzy _ | .ldxImm _
  | .ldxZp _ | .ldxZpy _ | .ldxAbs _ | .ldxAby _ | .ldyImm _ | .ldyZp _ | .ldyZpx _ | .ldyAbs _ | .ldyAbx _
  | .staZp _ | .staZpx _ | .staAbs _ | .staAbx _ | .staAby _ | .staIzx _ | .staIzy _ | .stxZp _ | .stxZpy _
  | .stxAbs _ | .styZp _ | .styZpx _ | .styAbs _ | .tax | .tay | .txa | .tya | .tsx | .txs | .pha | .php | .pla
  | .plp | .andImm _ | .andZp _ | .andZpx _ | .andAbs _ | .andAbx _ | .andAby _ | .andIzx _ | .andIzy _
  | .oraImm _ | .oraZp _ | .oraZpx _ | .oraAbs _ | .oraAbx _ | .oraAby _ | .oraIzx _ | .oraIzy _ | .eorImm _
  | .eorZp _ | .eorZpx _ | .eorAbs _ | .eorAbx _ | .eorAby _ | .eorIzx _ | .eorIzy _ | .bitZp _ | .bitAbs _
  | .cmpImm _ | .cmpZp _ | .cmpZpx _ | .cmpAbs _ | .cmpAbx _ | .cmpAby _ | .cmpIzx _ | .cmpIzy _ | .cpxImm _
  | .cpxZp _ | .cpxAbs _ | .cpyImm _ | .cpyZp _ | .cpyAbs _ | .incZp _ | .incZpx _ | .incAbs _ | .incAbx _
  | .decZp _ | .decZpx _ | .decAbs _ | .decAbx _ | .inx | .iny | .dex | .dey | .aslAcc | .aslZp _ | .aslZpx _
  | .aslAbs _ | .aslAbx _ | .lsrAcc | .lsrZp _ | .lsrZpx _ | .lsrAbs _ | .lsrAbx _ | .rolAcc | .rolZp _
  | .rolZpx _ | .rolAbs _ | .rolAbx _ | .rorAcc | .rorZp _ | .rorZpx _ | .rorAbs _ | .rorAbx _ | .jmpAbs _
  | .jsr _ | .rts | .bcc _ | .bcs _ | .beq _ | .bne _ | .bmi _ | .bpl _ | .bvc _ | .bvs _ | .clc | .sec | .cli
  | .sei | .cld | .sed | .clv | .nop | .brk | .rti => exec i s

/-- An extension entry: its operand bytes fetched and resolved by its mode, then its own semantics, at the cost R96
gives its row (30_encoding.md R68, 40_addressing_modes.md R80). Only the charge advances `cycles` (10_state.md R19). -/
def runEntry (p : Params) (e : ExtEntry) (s : State) : Result :=
  let o := assembleOperand e.mode (readByte s (s.pc + 1)) (readByte s (s.pc + 2))
  let s1 := past o s
  let op := resolveIn p o s1
  match e.semantics op s1 with
  | some (t, taken) => .next (retire (charge e.cycles e.penalty op taken) { t with cycles := s.cycles })
  | none => .fault .invalidAddressingModeUse

/-- `step()` on the machine with parameters `p`: the opcode byte is looked up in the base table overlaid with
`EXT_TABLE` and the instruction it selects is executed (R80, R68). It has a meaning only in Ready and Running
(10_state.md R21); in the other lifecycle states it is refused (60_exceptions.md R214). -/
def stepIn (p : Params) (s : State) : Result :=
  match s.life with
  | .uninitialized => .refused .uninitialized
  | .faulted => .refused .faulted
  | .ready | .running =>
    match extLookup p.extTable (opcodeAt s) with
    | some e => runEntry p e s
    | none =>
      match fetchInstr s with
      | .ok i => execIn p i s
      | .error e => .fault (decodeFault e s)

end Sys2Proof.Machine
end

