-- ==== Sys2Proof/Machine/Step.lean ====
section
/-! DEFINITION. `step()` (40_addressing_modes.md R80), and an instruction placed where `step` fetches. -/

namespace Sys2Proof.Machine

/-- `step()` executes exactly one instruction (R80), on the machine with the default parameters. -/
def step (s : State) : Host.Outcome State Fault Refusal := stepIn Params.standard s

/-- `s` with the instruction whose `nbits` lowest bits are those of `w`, its further bits 0, stored at `PC`,
first byte at the lowest address. -/
def State.withFetchWord (s : State) (nbits w : Nat) : State :=
  storeBytes longestInstr (w % 2 ^ nbits) s.pc s

end Sys2Proof.Machine
end

