-- ==== Sys2Proof/Machine/Decimal.lean ====
section
/-! DEFINITION. The one candidate value of `DECIMAL` that 43_logic_arith.md R139 writes out, the behaviour of the
NMOS 6502. `exec` does not use it: `DECIMAL` stays open (decision D4). A claim may name it as a premise. -/

namespace Sys2Proof.Machine

/-- The candidate `dec_adc(a, m, c)` of R139, on integers. -/
def nmosDecAdc (a m : Byte) (c : Bool) : DecimalResult :=
  let bin := (a.toNat + m.toNat + carryNat c) % 256
  let al0 := a.toNat % 16 + m.toNat % 16 + carryNat c
  let al := if al0 ≥ 0x0A then (al0 + 0x06) % 16 + 0x10 else al0
  let s0 := (a.toNat / 16) * 16 + (m.toNat / 16) * 16 + al
  let s := if s0 ≥ 0xA0 then s0 + 0x60 else s0
  let r := BitVec.ofNat 8 s0
  { a := BitVec.ofNat 8 s, n := r.getLsbD 7, v := overflow a m r, z := bin == 0, c := decide (s ≥ 0x100) }

/-- The candidate `dec_sbc(a, m, c)` of R139: N, V, Z and C are those of binary SBC. -/
def nmosDecSbc (a m : Byte) (c : Bool) : DecimalResult :=
  let bin := a.toNat + (m ^^^ 0xFF).toNat + carryNat c
  let r := BitVec.ofNat 8 bin
  let al0 : Int := (a.toNat % 16 : Nat) - (m.toNat % 16 : Nat) + (carryNat c : Nat) - 1
  let al : Int := if al0 < 0 then (al0 - 0x06) % 16 - 0x10 else al0
  let s0 : Int := ((a.toNat / 16) * 16 : Nat) - ((m.toNat / 16) * 16 : Nat) + al
  let s : Int := if s0 < 0 then s0 - 0x60 else s0
  { a := BitVec.ofInt 8 s, n := r.getLsbD 7, v := overflow a (m ^^^ 0xFF) r, z := r == 0, c := decide (bin > 255) }

end Sys2Proof.Machine
end

