-- ==== Sys2Proof/Machine/Events.lean ====
section
/-! DEFINITION. The observer events of `step` (10_state.md R27). They are outputs and not state (decision D22):
a function of the state a step starts from. -/

namespace Sys2Proof.Machine

/-- `BeforeInstruction{opcode}` and `AfterInstruction{opcode, cycles_consumed}`. -/
inductive Event where
  | beforeInstruction (opcode : Byte)
  | afterInstruction (opcode : Byte) (cyclesConsumed : Nat)
deriving DecidableEq, Repr

/-- An event with the state an observer may inspect while it is emitted. -/
structure Notice where
  event : Event
  seen : State
deriving DecidableEq, Repr

/-- The events one `step` emits on the machine with parameters `p`, in order: none when it faults or is refused;
before the instruction `PC` and `cycles` have each advanced by 1 (R27). -/
def stepEventsIn (p : Params) (s : State) : List Notice :=
  match stepIn p s with
  | .next t =>
    [⟨.beforeInstruction (opcodeAt s), tick 1 (advancePc 1 s)⟩,
     ⟨.afterInstruction (opcodeAt s) (t.cycles - s.cycles), t⟩]
  | .fault _ | .refused _ => []

/-- The events of `step` with the default parameters. -/
def stepEvents (s : State) : List Notice := stepEventsIn Params.standard s

end Sys2Proof.Machine
end

