-- ==== Sys2Proof/Machine/Session.lean ====
section
/-! DEFINITION. The host's side of the machine (10_state.md R25, R26, 60_exceptions.md R220 to R224, R233): the
interrupt requests, the control operations with the state each leaves, the accessors, and the loader's
contract (70_reset_and_hazards.md R246). -/

namespace Sys2Proof.Machine

/-- An operation that has a meaning in Ready and Running only (10_state.md R21, 60_exceptions.md R214). -/
def guarded (s : State) (f : State → State) : Result :=
  match s.life with
  | .uninitialized => .refused .uninitialized
  | .faulted => .refused .faulted
  | .ready | .running => .next (f s)

/-- The cycles of an IRQ or NMI entry (60_exceptions.md R223, decision D14). -/
def entryCycles : Nat := 7

/-- `interrupt()`, IRQ (R221): ignored while `P.I` is 1, dropped and not remembered. -/
def interrupt (s : State) : Result :=
  guarded s fun t => if t.p.i then t else tick entryCycles (interruptEntry irqVector false t)

/-- `non_maskable_interrupt()`, NMI (R222): performed whatever `P.I` is. -/
def nonMaskableInterrupt (s : State) : Result :=
  guarded s fun t => tick entryCycles (interruptEntry nmiVector false t)

/-- What the host may do to the machine (R233). -/
inductive HostOp where
  | reset
  | step
  | interrupt
  | nonMaskableInterrupt
  | write (addr : Word) (v : Byte)
  | writeWord (addr v : Word)
deriving DecidableEq, Repr

/-- How an operation came out: done, a fault (R210) or a refusal (R214). -/
inductive Report where
  | done
  | fault (r : Fault)
  | refused (r : Refusal)
deriving DecidableEq, Repr

/-- The state an operation leaves and its report to the host. -/
structure Reply where
  state : State
  report : Report
deriving DecidableEq, Repr

/-- A refusal changes no state (R214); a fault leaves `faultState` (R211, R212). -/
def replyOf (p : Params) (r : Result) (s : State) : Reply :=
  match r with
  | .next t => ⟨t, .done⟩
  | .fault f => ⟨faultState p f s, .fault f⟩
  | .refused q => ⟨s, .refused q⟩

/-- One host operation on the machine with parameters `p`, atomic (10_state.md R25). `reset` and the memory writes
have a meaning in every lifecycle state (R233). -/
def hostOpIn (p : Params) (op : HostOp) (s : State) : Reply :=
  match op with
  | .reset => ⟨resetOp s, .done⟩
  | .step => replyOf p (stepIn p s) s
  | .interrupt => replyOf p (interrupt s) s
  | .nonMaskableInterrupt => replyOf p (nonMaskableInterrupt s) s
  | .write addr v => ⟨writeByte s addr v, .done⟩
  | .writeWord addr v => ⟨writeWord s addr v, .done⟩

/-- A run is the sequence of operations the host chooses to make (60_exceptions.md R235). -/
def sessionIn (p : Params) : List HostOp → State → State
  | [], s => s
  | op :: ops, s => sessionIn p ops (hostOpIn p op s).state

/-- The host's operations and runs with the default parameters. -/
def hostOp (op : HostOp) (s : State) : Reply := hostOpIn Params.standard op s
def session (ops : List HostOp) (s : State) : State := sessionIn Params.standard ops s

/-- A read-only accessor: available in every lifecycle state but Uninitialized, where it is refused (10_state.md
R26, R29, 60_exceptions.md R214). It delivers no state and charges no cycle. -/
def accessor {α : Type} (read : State → α) (s : State) : Except Refusal α :=
  match s.life with
  | .uninitialized => .error .uninitialized
  | .ready | .running | .faulted => .ok (read s)

/-- The register, flag and cycle accessors of R26, all at once. -/
structure View where
  a : Byte
  x : Byte
  y : Byte
  sp : Byte
  pc : Word
  p : Status
  cycles : Nat
  programCycles : Nat
deriving DecidableEq, Repr

/-- `program_cycles() = cycles - STARTUP_CYCLES` (10_state.md R20). -/
def programCycles (s : State) : Except Refusal Nat := accessor (fun t => t.cycles - startupCycles) s

/-- A, X, Y, SP, PC, each flag, `cycles()` and `program_cycles()` (R26). -/
def view (s : State) : Except Refusal View :=
  accessor (fun t => {
    a := t.a, x := t.x, y := t.y, sp := t.sp, pc := t.pc, p := t.p
    cycles := t.cycles, programCycles := t.cycles - startupCycles }) s

/-- `n` bytes of memory from `addr` on, mod 65536 (R26). -/
def readBytes : Nat → Word → State → List Byte
  | 0, _, _ => []
  | n + 1, addr, s => readByte s addr :: readBytes n (addr + 1) s

/-- The memory-range accessor, available where R26 lists it. Log entry 14. -/
def memoryRange (n : Nat) (addr : Word) (s : State) : Except Refusal (List Byte) := accessor (readBytes n addr) s

/-- The host's view of the status register as a byte: `P_byte(P.B)` (10_state.md R16). -/
def statusView (s : State) : Except Refusal Byte := accessor (fun t => pByte t.p t.p.b) s

/-- A byte sequence written at ascending addresses, mod 65536. -/
def writeBytes : List Byte → Word → State → State
  | [], _, s => s
  | b :: bs, addr, s => writeBytes bs (addr + 1) (writeByte s addr b)

/-- The loader's contract (70_reset_and_hazards.md R246): the origin into the reset vector, then the image at
the origin. -/
def loadImage (origin : Word) (image : List Byte) (s : State) : State :=
  writeBytes image origin (writeWord s resetVector origin)

end Sys2Proof.Machine
end

