-- ==== Sys2Proof/Safety.lean ====
section
/-! DEFINITION. The terms claims are stated in: when an operation has a meaning, the invariant of every state
reached from a reset, and what the opcode table says an instruction reads, costs and leaves. -/

namespace Sys2Proof.Safety

open Machine

/-- The lifecycle states in which `step` and the interrupts have a meaning (10_state.md R21). -/
abbrev Live (s : State) : Prop := s.life = .ready ∨ s.life = .running

/-- What holds of every state from creation on: the memory is in canonical form and, once the first reset has
given the registers values, the stored Break flag is 0 (10_state.md R15) and the startup cycles have been
charged (R20). -/
abbrev Inv (s : State) : Prop :=
  Memory.wf s.mem = true ∧ (s.life ≠ .uninitialized → s.p.b = false ∧ startupCycles ≤ s.cycles)

/-- The operand an instruction resolves to when it runs in `s` (40_addressing_modes.md R80 step 3). -/
def operandOf (i : Instr) (s : State) : Opnd := resolve i.operand (past i.operand s)

/-- The 8-bit operand `M` of a read instruction running in `s` (R99). -/
def readOperand (i : Instr) (s : State) : Except Fault Byte := value (operandOf i s) (past i.operand s)

/-- The address a write or read-modify-write instruction running in `s` stores to, or the target a jump
resolves to (R99). -/
def targetOf (i : Instr) (s : State) : Except Fault Word := addr (operandOf i s)

/-- Whether an instruction running in `s` is a branch whose condition holds (45_control_flow.md R173 to R180). -/
def taken (i : Instr) (s : State) : Bool :=
  match i.mnemonic with
  | .bcc => s.p.c = false
  | .bcs => s.p.c = true
  | .beq => s.p.z = true
  | .bne => s.p.z = false
  | .bmi => s.p.n = true
  | .bpl => s.p.n = false
  | .bvc => s.p.v = false
  | .bvs => s.p.v = true
  | _ => false

/-- The cost R96 gives an instruction from its row of the opcode table: base cycles, one more where a
`page_cross` row crosses a page, one more for a taken branch and another if it crosses. -/
def cost (i : Instr) (s : State) : Nat :=
  match lookup base6502 i.opcode with
  | none => 0
  | some row =>
    row.cycles
      + (if row.penalty = .pageCross ∧ (operandOf i s).crossed = true then 1 else 0)
      + (if row.penalty = .branch ∧ taken i s = true then 1 + (if (operandOf i s).crossed = true then 1 else 0) else 0)

/-- What every completed instruction leaves beside its own effect: `PC` past its bytes, the table's cycles
charged, `life` = Running (R80, R96). -/
def done (i : Instr) (s : State) : State :=
  { s with pc := s.pc + BitVec.ofNat 16 i.length, cycles := s.cycles + cost i s, life := .running }

/-- The encodings an instruction rule lists: the opcode byte, mode, base cycles and penalty class of every
row of a mnemonic. -/
def forms (m : Mnemonic) : List (Byte × Mode × Nat × Penalty) :=
  (base6502.filter fun r => r.mnemonic = m).map fun r => (r.opcode, r.mode, r.cycles, r.penalty)

/-- The 105 byte values of 30_encoding.md R66. -/
def unmappedBytes : List Byte :=
  [0x02, 0x03, 0x04, 0x07, 0x0B, 0x0C, 0x0F, 0x12, 0x13, 0x14, 0x17, 0x1A, 0x1B, 0x1C, 0x1F] ++
  [0x22, 0x23, 0x27, 0x2B, 0x2F, 0x32, 0x33, 0x34, 0x37, 0x3A, 0x3B, 0x3C, 0x3F, 0x42, 0x43] ++
  [0x44, 0x47, 0x4B, 0x4F, 0x52, 0x53, 0x54, 0x57, 0x5A, 0x5B, 0x5C, 0x5F, 0x62, 0x63, 0x64] ++
  [0x67, 0x6B, 0x6F, 0x72, 0x73, 0x74, 0x77, 0x7A, 0x7B, 0x7C, 0x7F, 0x80, 0x82, 0x83, 0x87] ++
  [0x89, 0x8B, 0x8F, 0x92, 0x93, 0x97, 0x9B, 0x9C, 0x9E, 0x9F, 0xA3, 0xA7, 0xAB, 0xAF, 0xB2] ++
  [0xB3, 0xB7, 0xBB, 0xBF, 0xC2, 0xC3, 0xC7, 0xCB, 0xCF, 0xD2, 0xD3, 0xD4, 0xD7, 0xDA, 0xDB] ++
  [0xDC, 0xDF, 0xE2, 0xE3, 0xE7, 0xEB, 0xEF, 0xF2, 0xF3, 0xF4, 0xF7, 0xFA, 0xFB, 0xFC, 0xFF]

/-- The instructions that store to memory: the stores, the read-modify-write forms with a memory operand,
the pushes, JSR and BRK. -/
def storesByte (i : Instr) : Bool :=
  match i.mnemonic with
  | .sta | .stx | .sty | .inc | .dec => true
  | .asl | .lsr | .rol | .ror => i.operand.mode ≠ .acc
  | _ => false

/-- The bytes an instruction pushes (42_stack.md R120, R121, 45_control_flow.md R171, 46_flag_system.md R198). -/
def pushCount (i : Instr) : Nat :=
  match i.mnemonic with
  | .pha | .php => 1
  | .jsr => 2
  | .brk => 3
  | _ => 0

/-- N and Z after a result, in the words of R18: "Negative = (result's high bit set) and Zero = (result == 0)". -/
def withNZ (p : Status) (r : Byte) : Status := { p with n := decide (0x80 ≤ r.toNat), z := decide (r.toNat = 0) }

/-- The status byte as a number: N V 1 b D I Z C from bit 7 down (10_state.md R16). -/
def statusNat (p : Status) (b : Bool) : Nat :=
  128 * carryNat p.n + 64 * carryNat p.v + 32 + 16 * carryNat b + 8 * carryNat p.d + 4 * carryNat p.i
    + 2 * carryNat p.z + carryNat p.c

/-- Bit `k` of a byte, by division. -/
def bitOf (v : Byte) (k : Nat) : Bool := decide (v.toNat / 2 ^ k % 2 = 1)

/-- The flags loaded from a pulled byte: bits 5 and 4 discarded, `P.B` unchanged (10_state.md R17). -/
def loaded (p : Status) (v : Byte) : Status :=
  { n := bitOf v 7, v := bitOf v 6, b := p.b, d := bitOf v 3, i := bitOf v 2, z := bitOf v 1, c := bitOf v 0 }

/-- The byte `k` places above the stack pointer, inside page $01 (20_memory.md R48, R49). -/
def stackByte (s : State) (k : Nat) : Byte := memRead s.mem (0x100 + (s.sp.toNat + k) % 256)

/-- The address `k` places below the stack pointer, inside page $01 (20_memory.md R47, R49). -/
def stackSlot (s : State) (k : Nat) : Word := BitVec.ofNat 16 (0x100 + (s.sp.toNat + 256 - k) % 256)

/-- The bytes an instruction running in `s` stores, each with its address: its register for a store, the result
for a read-modify-write form, and what PHA, PHP, JSR and BRK push. -/
def storedBytes (i : Instr) (s : State) : List (Word × Byte) :=
  let atTarget (result : Byte → Byte) : List (Word × Byte) :=
    match targetOf i s with
    | .ok ea => [(ea, result (readByte s ea))]
    | .error _ => []
  match i.mnemonic with
  | .sta => atTarget fun _ => s.a
  | .stx => atTarget fun _ => s.x
  | .sty => atTarget fun _ => s.y
  | .inc => atTarget fun m => BitVec.ofNat 8 ((m.toNat + 1) % 256)
  | .dec => atTarget fun m => BitVec.ofNat 8 ((m.toNat + 255) % 256)
  | .asl => atTarget fun m => BitVec.ofNat 8 (2 * m.toNat % 256)
  | .lsr => atTarget fun m => BitVec.ofNat 8 (m.toNat / 2)
  | .rol => atTarget fun m => BitVec.ofNat 8 ((2 * m.toNat + carryNat s.p.c) % 256)
  | .ror => atTarget fun m => BitVec.ofNat 8 (m.toNat / 2 + 128 * carryNat s.p.c)
  | .pha => [(stackSlot s 0, s.a)]
  | .php => [(stackSlot s 0, BitVec.ofNat 8 (statusNat s.p true))]
  | .jsr =>
    [(stackSlot s 0, BitVec.ofNat 8 ((s.pc.toNat + 2) % 65536 / 256)),
     (stackSlot s 1, BitVec.ofNat 8 ((s.pc.toNat + 2) % 256))]
  | .brk =>
    [(stackSlot s 0, BitVec.ofNat 8 ((s.pc.toNat + 2) % 65536 / 256)),
     (stackSlot s 1, BitVec.ofNat 8 ((s.pc.toNat + 2) % 256)),
     (stackSlot s 2, BitVec.ofNat 8 (statusNat s.p true))]
  | _ => []

/-- What an address holds after an instruction that ran in `s`: the byte the instruction stored there, or else
the byte it held before. -/
def byteAfter (i : Instr) (s : State) (addr : Word) : Byte :=
  match (storedBytes i s).find? fun w => w.1 = addr with
  | some w => w.2
  | none => readByte s addr

/-- What the interrupt entry that resumes at `resume` leaves (60_exceptions.md R223): three bytes pushed, the
status byte with bit 4 = `b` and the old I, then I set and `PC` loaded from the vector; A, X, Y, the other
flags and every other byte of memory unchanged. -/
def Entered (s t : State) (resume : Word) (b : Bool) (vector : Nat) : Prop :=
  t.a = s.a ∧ t.x = s.x ∧ t.y = s.y ∧ t.sp = s.sp - 3 ∧ t.p = { s.p with i := true } ∧
  t.pc.toNat = 256 * (memRead s.mem (vector + 1)).toNat + (memRead s.mem vector).toNat ∧
  (readByte t (stackSlot s 0)).toNat = resume.toNat / 256 ∧
  (readByte t (stackSlot s 1)).toNat = resume.toNat % 256 ∧
  (readByte t (stackSlot s 2)).toNat = statusNat s.p b ∧
  ∀ addr : Word, addr ≠ stackSlot s 0 → addr ≠ stackSlot s 1 → addr ≠ stackSlot s 2 → readByte t addr = readByte s addr

end Sys2Proof.Safety
end

