-- ==== Sys2Proof/Certificates/Slice0/Obligations.lean ====
section
/-! DEFINITION. The statements for the provers, each formalising numbered rules of spec/. -/

open Sys2Proof Sys2Proof.Machine Sys2Proof.Safety

/-- In Ready or Running, when the three bytes at PC, PC + 1 and PC + 2 (mod 65536) decode to an instruction i, step
is exec of i in that same state. That step adds nothing around exec, which itself moves PC past the instruction,
charges its cycles and sets life to Running, is the choice of the model in log entry 10, and that three bytes
are always handed to the decoder is that of log entry 7; R80, R81 and R41 say what a step does in all.
(40_addressing_modes.md section 1, R80, R81, R41, log entries 7 and 10) -/
def Obligations.StepRunsTheDecodedInstruction : Prop :=
  ∀ (s : State) (i : Instr), Live s →
    decode (readByte s s.pc) (readByte s (s.pc + 1)) (readByte s (s.pc + 2)) = .ok i → step s = exec i s

/-- In Ready or Running, a step whose opcode byte is one of the 105 values of R66 fails with UnknownOpcode carrying
that byte, and a step whose opcode byte is any other value answers a next state, so none of the 105 executes as
a no-op and no other byte faults. (R66) -/
def Obligations.UnmappedByteFaultsAndOthersComplete : Prop :=
  ∀ s : State, Live s →
    if readByte s s.pc ∈ unmappedBytes then ∃ address, step s = .fault (.unknownOpcode (readByte s s.pc) address)
    else ∃ t, step s = .next t

/-- In Ready or Running with an unmapped byte at PC, the host operation step reports UnknownOpcode with that byte
and the address it was fetched from, and leaves the state with PC + 1, cycles + 1 and life = Faulted and
everything else (A, X, Y, SP, flags, memory) unchanged, and it emits no event. That address is the old PC and
that life becomes Faulted is the decision D3 of the spec. (60_exceptions.md section 1, 92_eei_decisions.md D3,
10_state.md section 5) -/
def Obligations.FaultLeavesOnlyPcCyclesAndLife : Prop :=
  ∀ s : State, Live s → readByte s s.pc ∈ unmappedBytes →
    hostOp .step s =
      ⟨{ s with pc := s.pc + 1, cycles := s.cycles + 1, life := .faulted },
       .fault (.unknownOpcode (readByte s s.pc) s.pc)⟩ ∧
    stepEvents s = []

/-- From any state, if step faults then the fault is UnknownOpcode with the byte at PC and the address PC; so
InvalidAddressingModeUse is unreachable with the base table, which the spec derives in R95. That the fault
carries the byte at PC and the address it was fetched from, the old PC, is R211 with the decision D3 of the
spec. (40_addressing_modes.md R95, 60_exceptions.md R211, R212, R215, 92_eei_decisions.md D3) -/
def Obligations.StepFaultsOnlyWithUnknownOpcode : Prop :=
  ∀ (s : State) (f : Fault), step s = .fault f → f = .unknownOpcode (readByte s s.pc) s.pc

/-- While life is Uninitialized, step, interrupt and non_maskable_interrupt are refused with no state change and
every accessor is refused, the memory range among them (log entry 14); while life is Faulted, the three
operations are refused with no state change (decision D16 of the spec). In every other lifecycle state than
Uninitialized the accessors deliver A, X, Y, SP, PC, the seven flags, cycles and cycles - 8 of the state, the
bytes of any memory range mod 65536, and the flags as the byte P_byte(P.B). (60_exceptions.md R214, 10_state.md
R16, R20, R26, R29, 92_eei_decisions.md D16, D27, log entry 14) -/
def Obligations.RefusalsAndAccessorsFollowTheLifecycle : Prop :=
  ∀ s : State,
    (∀ op : HostOp, op ∈ [.step, .interrupt, .nonMaskableInterrupt] →
      (s.life = .uninitialized → hostOp op s = ⟨s, .refused .uninitialized⟩) ∧
      (s.life = .faulted → hostOp op s = ⟨s, .refused .faulted⟩)) ∧
    (s.life = .uninitialized → view s = .error .uninitialized ∧ programCycles s = .error .uninitialized ∧
      statusView s = .error .uninitialized ∧ ∀ n addr, memoryRange n addr s = .error .uninitialized) ∧
    (s.life ≠ .uninitialized →
      view s = .ok ⟨s.a, s.x, s.y, s.sp, s.pc, s.p, s.cycles, s.cycles - 8⟩ ∧ programCycles s = .ok (s.cycles - 8) ∧
      statusView s = .ok (BitVec.ofNat 8 (statusNat s.p s.p.b)) ∧
      ∀ n addr, ∃ bs, memoryRange n addr s = .ok bs ∧ bs.length = n ∧
        ∀ (k : Nat) (h : k < bs.length), bs[k] = readByte s (addr + BitVec.ofNat 16 k))

/-- For every instruction i, every operand value and any two bytes that follow it in memory, the first three bytes
of its encoding followed by those bytes decode to i. (30_encoding.md sections 1 to 3, R60, R61, R62) -/
def Obligations.DecodeOfEncodeIsTheInstruction : Prop :=
  ∀ (i : Instr) (x y : Byte), ∃ b0 b1 b2 rest,
    encode i ++ [x, y] = b0 :: b1 :: b2 :: rest ∧ decode b0 b1 b2 = .ok i

/-- Whenever three bytes decode to an instruction i, the first length(i) of them are the encoding of i, and the
mnemonic of i accepts the mode of its operand. (30_encoding.md sections 1 to 3, R60, R61, R62) -/
def Obligations.DecodedBytesAreTheEncoding : Prop :=
  ∀ (b0 b1 b2 : Byte) (i : Instr), decode b0 b1 b2 = .ok i →
    [b0, b1, b2].take i.length = encode i ∧ i.wellFormed = true

/-- Bytes printed in the spec decode as it says: A9 D6 is LDA #$D6, A2 2A is LDX #42, 00 is BRK, BD 34 12 is LDA
$1234,X, 91 22 is STA ($22),Y, 48 is PHA, 24 10 is BIT $10, 66 10 is ROR $10, 6C 34 12 is JMP ($1234), D0 F9 is
BNE -7, F8 is SED; and FF is no instruction. (30_encoding.md R64, R65, R69, 95_test_vectors.md sections 2 and 3) -/
def Obligations.SampleBytesDecodeAsTheSpecSays : Prop :=
  decode 0xA9 0xD6 0x00 = .ok (.ldaImm 0xD6) ∧ decode 0xA2 0x2A 0xA9 = .ok (.ldxImm 42) ∧
  decode 0x00 0xEA 0x69 = .ok .brk ∧ decode 0xBD 0x34 0x12 = .ok (.ldaAbx 0x1234) ∧
  decode 0x91 0x22 0x88 = .ok (.staIzy 0x22) ∧ decode 0x48 0x29 0x10 = .ok .pha ∧
  decode 0x24 0x10 0x00 = .ok (.bitZp 0x10) ∧ decode 0x66 0x10 0x00 = .ok (.rorZp 0x10) ∧
  decode 0x6C 0x34 0x12 = .ok (.jmpInd 0x1234) ∧ decode 0xD0 0xF9 0x85 = .ok (.bne 0xF9) ∧
  decode 0xF8 0x00 0x00 = .ok .sed ∧ decode 0xFF 0x00 0x00 = .error (.unknownOpcode 0xFF)

/-- For any memory image with reset vector bytes lo at $FFFC and hi at $FFFD, after reset() PC is lo | (hi << 8), SP
is $FF, A, X and Y are 0, all seven flags are false, total cycles are 8 and program cycles are 0. (R243) -/
def Obligations.ResetLeavesTheStatedValues : Prop :=
  ∀ (s : State) (lo hi : Byte), readByte s 0xFFFC = lo → readByte s 0xFFFD = hi →
    let t := (hostOp .reset s).state
    t.pc = (lo.setWidth 16 ||| (hi.setWidth 16 <<< 8)) ∧ t.sp = 0xFF ∧ t.a = 0 ∧ t.x = 0 ∧ t.y = 0 ∧
    (t.p.n = false ∧ t.p.v = false ∧ t.p.b = false ∧ t.p.d = false ∧ t.p.i = false ∧ t.p.z = false ∧ t.p.c = false) ∧
    t.cycles = 8 ∧ programCycles t = .ok 0

/-- Whatever the host did before, in whatever lifecycle state, a reset leaves life = Ready and a state that is a
function of the memory contents alone: two machines with the same memory come out equal, and a second reset in a
row gives the same state as one, so reset discards all register, flag and cycle state. (R241) -/
def Obligations.ResetDependsOnTheMemoryAlone : Prop :=
  (∀ s t : State, s.mem = t.mem → hostOp .reset s = hostOp .reset t ∧ (hostOp .reset s).state.life = .ready) ∧
  (∀ (ops : List HostOp) (s : State), session (ops ++ [.reset, .reset]) s = session (ops ++ [.reset]) s)

/-- For every parameter M0 in canonical form, the machine at launch meets the invariant, and so does the state
reset() makes of it, which keeps M0 as its memory. State.reset is what reset() makes of the machine at creation,
whose memory is zero-filled (the choice of log entry 1 for the open launch memory). The invariant: memory in
canonical form and, from the first reset on, Break flag 0 and startup cycles charged. (10_state.md R28, R29,
20_memory.md R40, 00_scope.md R6, 92_eei_decisions.md D23, log entry 1) -/
def Obligations.ResetStateMeetsTheInvariant : Prop :=
  State.reset = (hostOp .reset State.created).state ∧ Params.standard.launch = State.created ∧ Inv State.reset ∧
  ∀ p : Params, Memory.wf p.m0 = true →
    Inv p.launch ∧ Inv (hostOpIn p .reset p.launch).state ∧ (hostOpIn p .reset p.launch).state.mem = p.m0

/-- For every state that meets the invariant (the memory in canonical form and, unless Uninitialized, the stored
Break flag 0 and at least the 8 startup cycles charged), if step answers a next state then that state meets the
invariant and its life is Running. (10_state.md R15, R20, R21, 20_memory.md R40, R42) -/
def Obligations.StepKeepsTheInvariant : Prop :=
  ∀ s t : State, Inv s → step s = .next t → Inv t ∧ t.life = .running

/-- For every state that meets the invariant and every sequence of host operations (reset, step, interrupt,
non_maskable_interrupt, memory writes), the state the sequence leaves meets the invariant, also where an
operation faults or is refused. (60_exceptions.md R211, R214, R221 to R223, R233, 10_state.md R15, R20) -/
def Obligations.HostOperationsKeepTheInvariant : Prop :=
  ∀ (ops : List HostOp) (s : State), Inv s → Inv (session ops s)

/-- From any state at all, once the host has called reset, the stored Break flag is 0 after every further sequence
of host operations. That no instruction and no interrupt writes it is the decision D5 of the spec. (10_state.md
R15, 92_eei_decisions.md D5, D6) -/
def Obligations.BreakFlagIsZeroAfterAnyReset : Prop :=
  ∀ (ops : List HostOp) (s : State), (session (.reset :: ops) s).p.b = false

/-- Every reset sets cycles to exactly 8, and after a reset and any further host operations cycles is at least
STARTUP_CYCLES = 8 and the accessors deliver cycles and program_cycles with program_cycles + 8 = cycles. (R20) -/
def Obligations.ProgramCyclesNeverNegative : Prop :=
  startupCycles = 8 ∧
  ∀ (ops : List HostOp) (s : State),
    (hostOp .reset s).state.cycles = 8 ∧ 8 ≤ (session (.reset :: ops) s).cycles ∧
    ∃ v, view (session (.reset :: ops) s) = .ok v ∧ v.cycles = (session (.reset :: ops) s).cycles ∧
      v.programCycles + 8 = v.cycles

/-- No host operation other than reset decreases cycles, the memory writes leave it unchanged, and a completed step
strictly increases it. Its unbounded width is the decision D17 of the spec. (10_state.md R19,
92_eei_decisions.md D17) -/
def Obligations.CyclesNeverDecreaseBetweenResets : Prop :=
  ∀ (op : HostOp) (s : State), op ≠ .reset →
    s.cycles ≤ (hostOp op s).state.cycles ∧
    (∀ addr v, op = .write addr v → (hostOp op s).state.cycles = s.cycles) ∧
    (∀ addr w, op = .writeWord addr w → (hostOp op s).state.cycles = s.cycles) ∧
    (∀ t, op = .step → step s = .next t → s.cycles < t.cycles)

/-- If an instruction completes in a state, then in the same state with any other value of cycles it completes with
the same registers, flags, memory, PC and life, and with the same number of cycles added. (10_state.md R19,
70_reset_and_hazards.md R252) -/
def Obligations.NoInstructionDependsOnTheCycleCounter : Prop :=
  ∀ (i : Instr) (s t : State) (n : Nat), exec i s = .next t →
    s.cycles ≤ t.cycles ∧ exec i { s with cycles := n } = .next { t with cycles := n + (t.cycles - s.cycles) }

/-- If an instruction completes in a state, then in the same state with the other value of the stored Break flag it
completes with the same result but for that flag, which stays what it was; in particular the bytes PHP and BRK
push do not depend on it. (10_state.md R15, 92_eei_decisions.md D5) -/
def Obligations.NoInstructionReadsTheBreakFlag : Prop :=
  ∀ (i : Instr) (s t : State) (b : Bool), exec i s = .next t →
    t.p.b = s.p.b ∧ exec i { s with p := { s.p with b := b } } = .next { t with p := { t.p with b := b } }

/-- For every instruction but ADC, SBC (which compute with D), PHP, BRK (which push it), PLP, RTI (which load it)
and SED, CLD (which set it): if it completes in a state, then in the same state with the other value of D it
completes with the same result but for D, which stays what it was. (43_logic_arith.md R139, 10_state.md R18) -/
def Obligations.OnlyAdcAndSbcComputeWithTheDecimalFlag : Prop :=
  ∀ (i : Instr) (s t : State) (d : Bool),
    i.mnemonic ∉ [.adc, .sbc, .php, .brk, .plp, .rti, .sed, .cld] → exec i s = .next t →
    t.p.d = s.p.d ∧ exec i { s with p := { s.p with d := d } } = .next { t with p := { t.p with d := d } }

/-- For every state, every address (the vectors, the stack page and the running program among them) and every byte,
a write changes the byte at that address to it and leaves every other address and everything outside memory
unchanged. The host operation write is that write in every lifecycle state, and write_word is two of them, the
low byte at the address and the high byte at the next mod 65536. (R42) -/
def Obligations.EveryAddressHoldsTheByteLastWritten : Prop :=
  ∀ (s : State) (addr other : Word) (v : Byte),
    readByte (writeByte s addr v) other = (if other = addr then v else readByte s other) ∧
    { writeByte s addr v with mem := s.mem } = s ∧
    hostOp (.write addr v) s = ⟨writeByte s addr v, .done⟩ ∧
    ∀ w : Word, hostOp (.writeWord addr w) s = ⟨writeByte (writeByte s addr (BitVec.ofNat 8 (w.toNat % 256)))
      (addr + 1) (BitVec.ofNat 8 (w.toNat / 256)), .done⟩

/-- A word read takes the low byte from the address and the high byte from the next address mod 65536; a zero-page
pointer read takes its high byte from (z + 1) mod 256, which is the decision D8 of the spec; a word written with
write_word reads back at every address and leaves every other byte alone. (20_memory.md R43, R44, R45,
92_eei_decisions.md D8) -/
def Obligations.WordAccessesAreLittleEndianAndWrap : Prop :=
  ∀ (s : State) (addr v : Word) (z : Byte),
    (readWord s addr).toNat = 256 * (memRead s.mem ((addr.toNat + 1) % 65536)).toNat + (memRead s.mem addr.toNat).toNat ∧
    (readZp16 s z).toNat = 256 * (memRead s.mem ((z.toNat + 1) % 256)).toNat + (memRead s.mem z.toNat).toNat ∧
    readWord (writeWord s addr v) addr = v ∧
    ∀ other : Word, other ≠ addr → other ≠ addr + 1 → readByte (writeWord s addr v) other = readByte s other

/-- A push stores its byte at $0100 + SP, which lies in page $01, decrements SP mod 256 and leaves every other byte
alone; the pull that follows delivers the byte and restores SP. The pull direction is the decision D21 of the
spec. (20_memory.md R47, R48, R49, 92_eei_decisions.md D21) -/
def Obligations.PullGivesBackTheBytePushed : Prop :=
  ∀ (s : State) (v : Byte),
    readByte (push8 s v) (stackSlot s 0) = v ∧ (push8 s v).sp.toNat = (s.sp.toNat + 255) % 256 ∧
    (stackSlot s 0).toNat = 0x100 + s.sp.toNat ∧
    (∀ other : Word, other ≠ stackSlot s 0 → readByte (push8 s v) other = readByte s other) ∧
    pulled8 (push8 s v) = v ∧ (pull8 (push8 s v)).sp = s.sp ∧
    pulled8 s = stackByte s 1 ∧ (pull8 s).sp.toNat = (s.sp.toNat + 1) % 256

/-- Implied resolves to None, accumulator to Acc, immediate v to Imm(v), and fetching them puts PC past the opcode
and the operand byte. The effective address of zp is z, of zpx (z + X) mod 256, of zpy (z + Y) mod 256, and of
izx the word whose low byte is at p = (z + X) mod 256 and whose high byte is at (p + 1) mod 256; none reports a
page crossing. value delivers v for Imm(v), the byte at ea for Mem(ea, _), A for Acc and
InvalidAddressingModeUse otherwise; addr delivers ea for Mem(ea, _) and InvalidAddressingModeUse otherwise. The
wraps are the decisions D7 and D8 of the spec. (40_addressing_modes.md R82 to R87, R92, R95, R99,
60_exceptions.md R212, 92_eei_decisions.md D7, D8) -/
def Obligations.ImmediateAndZeroPageOperandsResolveAndDeliver : Prop :=
  ∀ (s : State) (z : Byte),
    (resolve .imp s = .none ∧ (past .imp s).pc.toNat = (s.pc.toNat + 1) % 65536) ∧
    (resolve .acc s = .acc ∧ (past .acc s).pc.toNat = (s.pc.toNat + 1) % 65536) ∧
    (resolve (.imm z) s = .imm z ∧ (past (.imm z) s).pc.toNat = (s.pc.toNat + 2) % 65536) ∧
    resolve (.zp z) s = .mem (BitVec.ofNat 16 z.toNat) false ∧
    resolve (.zpx z) s = .mem (BitVec.ofNat 16 ((z.toNat + s.x.toNat) % 256)) false ∧
    resolve (.zpy z) s = .mem (BitVec.ofNat 16 ((z.toNat + s.y.toNat) % 256)) false ∧
    resolve (.izx z) s = .mem (BitVec.ofNat 16 (256 * (memRead s.mem ((z.toNat + s.x.toNat + 1) % 256)).toNat
      + (memRead s.mem ((z.toNat + s.x.toNat) % 256)).toNat)) false ∧
    (value (.imm z) s = .ok z ∧ value .acc s = .ok s.a ∧ value .none s = .error .invalidAddressingModeUse) ∧
    (addr .none = .error .invalidAddressingModeUse ∧ addr .acc = .error .invalidAddressingModeUse ∧
      addr (.imm z) = .error .invalidAddressingModeUse) ∧
    ∀ (w : Word) (crossed : Bool),
      value (.mem w crossed) s = .ok (memRead s.mem w.toNat) ∧ addr (.mem w crossed) = .ok w ∧
      value (.rel w crossed) s = .error .invalidAddressingModeUse ∧
      addr (.rel w crossed) = .error .invalidAddressingModeUse

/-- The effective address of abs is its operand; of abx and aby the operand plus X or Y mod 65536; of izy the zero-
page pointer at z plus Y mod 65536, the high byte of the pointer from (z + 1) mod 256 (decision D8 of the spec);
the last three report a crossing exactly when the pages (address divided by 256) of base and effective address
differ. (40_addressing_modes.md R88, R89, R90, R93, 92_eei_decisions.md D8) -/
def Obligations.IndexedModesResolveMod65536AndReportCrossing : Prop :=
  ∀ (s : State) (w : Word) (z : Byte),
    let x := (w.toNat + s.x.toNat) % 65536
    let y := (w.toNat + s.y.toNat) % 65536
    let base := 256 * (memRead s.mem ((z.toNat + 1) % 256)).toNat + (memRead s.mem z.toNat).toNat
    let ea := (base + s.y.toNat) % 65536
    resolve (.abs w) s = .mem w false ∧
    resolve (.abx w) s = .mem (BitVec.ofNat 16 x) (decide (w.toNat / 256 ≠ x / 256)) ∧
    resolve (.aby w) s = .mem (BitVec.ofNat 16 y) (decide (w.toNat / 256 ≠ y / 256)) ∧
    resolve (.izy z) s = .mem (BitVec.ofNat 16 ea) (decide (base / 256 ≠ ea / 256))

/-- With PC at the following instruction, the target of a relative operand is PC plus the offset byte read as two's
complement, mod 65536, and it is reported as crossing exactly when target and following instruction lie in
different pages; resolution leaves PC alone, and fetching the operand has put PC two bytes past the branch (the
opcode and the offset byte). (40_addressing_modes.md R81, R94) -/
def Obligations.BranchOffsetsAreSignedFromTheNextInstruction : Prop :=
  ∀ (s : State) (o : Byte),
    (past (.rel o) s).pc.toNat = (s.pc.toNat + 2) % 65536 ∧
    ∃ target : Word, (target.toNat : Int) = (s.pc.toNat + o.toInt) % 65536 ∧
      resolve (.rel o) s = .rel target (decide (s.pc.toNat / 256 ≠ target.toNat / 256))

/-- The target of an indirect operand has its low byte at ptr; its high byte comes from (ptr + 1) mod 65536 with the
parameter false and from {high byte of ptr, (low byte of ptr + 1) mod 256} with it true. On the machine with any
parameters the mode uses the parameter JMP_IND_PAGE_WRAP and reports no crossing, JMP (indirect) completes with
PC at that target and changes only PC, cycles and life, and no other mode uses a parameter; the default is false
(decision D9 of the spec, log entry 3). (40_addressing_modes.md R91, 00_scope.md R6, 92_eei_decisions.md D9, log
entry 3) -/
def Obligations.IndirectTargetFollowsTheParameter : Prop :=
  ∀ (s : State) (ptr : Word),
    (indirectTarget false ptr s).toNat =
      256 * (memRead s.mem ((ptr.toNat + 1) % 65536)).toNat + (memRead s.mem ptr.toNat).toNat ∧
    (indirectTarget true ptr s).toNat =
      256 * (memRead s.mem (ptr.toNat / 256 * 256 + (ptr.toNat + 1) % 256)).toNat + (memRead s.mem ptr.toNat).toNat ∧
    Params.standard.jmpIndPageWrap = false ∧
    ∀ p : Params,
      resolveIn p (.ind ptr) s = .mem (indirectTarget p.jmpIndPageWrap ptr s) false ∧
      execIn p (.jmpInd ptr) s = .next { done (.jmpInd ptr) s with pc := indirectTarget p.jmpIndPageWrap ptr s } ∧
      ∀ o : Operand, o.mode ≠ .ind → resolveIn p o s = resolve o s

/-- For every instruction, every operand and every state, exec answers a next state whose cycles are those before
plus the cost R96 computes from the row of the opcode table (base cycles, page-cross penalty, taken branch,
taken branch to another page) and whose life is Running. The figures are the decisions D10, D11 and D12 of the
spec. (40_addressing_modes.md R96, R97, 45_control_flow.md R181, 92_eei_decisions.md D10, D11, D12) -/
def Obligations.EveryInstructionCompletesAndChargesItsTableCost : Prop :=
  ∀ (i : Instr) (s : State), ∃ t, exec i s = .next t ∧ t.cycles = s.cycles + cost i s ∧ t.life = .running

/-- LDA, LDX and LDY have exactly the encodings, base cycles and penalties listed, and in every form and state
complete: the register takes the operand M, N is M >= $80, Z is M = 0, PC is past the instruction, the cycles of
R96 are charged, and nothing else changes. The spec marks the rule as general knowledge (log entry 15). (R100,
R101, R102) -/
def Obligations.LoadsSetTheirRegisterAndNZ : Prop :=
  forms .lda = [(0xA1, .izx, 6, .none), (0xA5, .zp, 3, .none), (0xA9, .imm, 2, .none), (0xAD, .abs, 4, .none),
    (0xB1, .izy, 5, .pageCross), (0xB5, .zpx, 4, .none), (0xB9, .aby, 4, .pageCross), (0xBD, .abx, 4, .pageCross)] ∧
  forms .ldx = [(0xA2, .imm, 2, .none), (0xA6, .zp, 3, .none), (0xAE, .abs, 4, .none), (0xB6, .zpy, 4, .none),
    (0xBE, .aby, 4, .pageCross)] ∧
  forms .ldy = [(0xA0, .imm, 2, .none), (0xA4, .zp, 3, .none), (0xAC, .abs, 4, .none), (0xB4, .zpx, 4, .none),
    (0xBC, .abx, 4, .pageCross)] ∧
  ∀ (i : Instr) (s : State),
    (i.mnemonic = .lda → ∃ M, readOperand i s = .ok M ∧
      exec i s = .next { done i s with a := M, p := withNZ s.p M }) ∧
    (i.mnemonic = .ldx → ∃ M, readOperand i s = .ok M ∧
      exec i s = .next { done i s with x := M, p := withNZ s.p M }) ∧
    (i.mnemonic = .ldy → ∃ M, readOperand i s = .ok M ∧
      exec i s = .next { done i s with y := M, p := withNZ s.p M })

/-- STA, STX and STY have exactly the encodings and base cycles listed and never a page-cross penalty, and in every
form and state complete: the byte at the effective address becomes the register, PC is past the instruction, the
cycles are charged, and nothing else changes, no flag among it. The spec marks the rule as general knowledge
(log entry 15). (R103, R104, R105) -/
def Obligations.StoresWriteTheirRegister : Prop :=
  forms .sta = [(0x81, .izx, 6, .none), (0x85, .zp, 3, .none), (0x8D, .abs, 4, .none), (0x91, .izy, 6, .none),
    (0x95, .zpx, 4, .none), (0x99, .aby, 5, .none), (0x9D, .abx, 5, .none)] ∧
  forms .stx = [(0x86, .zp, 3, .none), (0x8E, .abs, 4, .none), (0x96, .zpy, 4, .none)] ∧
  forms .sty = [(0x84, .zp, 3, .none), (0x8C, .abs, 4, .none), (0x94, .zpx, 4, .none)] ∧
  ∀ (i : Instr) (s : State),
    (i.mnemonic = .sta → ∃ ea, targetOf i s = .ok ea ∧ exec i s = .next (writeByte (done i s) ea s.a)) ∧
    (i.mnemonic = .stx → ∃ ea, targetOf i s = .ok ea ∧ exec i s = .next (writeByte (done i s) ea s.x)) ∧
    (i.mnemonic = .sty → ∃ ea, targetOf i s = .ok ea ∧ exec i s = .next (writeByte (done i s) ea s.y))

/-- The six transfers have the encodings listed, take 2 cycles and complete in every state: the destination takes
the source, N and Z follow the value transferred except for TXS, which writes no flag, and nothing else changes
but PC (one past), cycles and life. The spec marks the rule as general knowledge (log entry 15). (R106, R107,
R108, R109, R110, R111) -/
def Obligations.TransfersCopyTheirSource : Prop :=
  [forms .tax, forms .tay, forms .txa] = [[(0xAA, .imp, 2, .none)], [(0xA8, .imp, 2, .none)], [(0x8A, .imp, 2, .none)]] ∧
  [forms .tya, forms .tsx, forms .txs] = [[(0x98, .imp, 2, .none)], [(0xBA, .imp, 2, .none)], [(0x9A, .imp, 2, .none)]] ∧
  ∀ s : State,
    exec .tax s = .next { done .tax s with x := s.a, p := withNZ s.p s.a } ∧
    exec .tay s = .next { done .tay s with y := s.a, p := withNZ s.p s.a } ∧
    exec .txa s = .next { done .txa s with a := s.x, p := withNZ s.p s.x } ∧
    exec .tya s = .next { done .tya s with a := s.y, p := withNZ s.p s.y } ∧
    exec .tsx s = .next { done .tsx s with x := s.sp, p := withNZ s.p s.sp } ∧
    exec .txs s = .next { done .txs s with sp := s.x }

/-- PHA and PLA have the encodings listed and complete in every state: PHA stores A at $0100 + SP, decrements SP mod
256 and writes no flag; PLA increments SP mod 256, loads A with the byte at $0100 + the new SP and sets N and Z
from it; nothing else changes but PC, cycles and life. The spec marks the rule as general knowledge (log entry
15). (R120, R122) -/
def Obligations.PushAndPullOfTheAccumulator : Prop :=
  [forms .pha, forms .pla] = [[(0x48, .imp, 3, .none)], [(0x68, .imp, 4, .none)]] ∧
  ∀ s : State,
    exec .pha s = .next { done .pha s with
      sp := BitVec.ofNat 8 ((s.sp.toNat + 255) % 256), mem := memWrite s.mem (0x100 + s.sp.toNat) s.a } ∧
    exec .pla s = .next { done .pla s with
      sp := BitVec.ofNat 8 ((s.sp.toNat + 1) % 256), a := stackByte s 1, p := withNZ s.p (stackByte s 1) }

/-- PHP stores the byte {N, V, 1, 1, D, I, Z, C} at $0100 + SP, decrements SP mod 256 and changes no flag; PLP
increments SP mod 256 and loads N V D I Z C from bits 7 6 3 2 1 0 of the byte at $0100 + the new SP, discarding
bits 5 and 4 and keeping P.B. Bit 4 and the discarding are the decisions D5 and D6 of the spec. (42_stack.md
R121, R123, 10_state.md R16, R17, 92_eei_decisions.md D5, D6) -/
def Obligations.PushAndPullOfTheStatus : Prop :=
  [forms .php, forms .plp] = [[(0x08, .imp, 3, .none)], [(0x28, .imp, 4, .none)]] ∧
  ∀ s : State,
    exec .php s = .next { done .php s with
      sp := BitVec.ofNat 8 ((s.sp.toNat + 255) % 256)
      mem := memWrite s.mem (0x100 + s.sp.toNat) (BitVec.ofNat 8 (statusNat s.p true)) } ∧
    exec .plp s = .next { done .plp s with
      sp := BitVec.ofNat 8 ((s.sp.toNat + 1) % 256), p := loaded s.p (stackByte s 1) }

/-- From every state PHP followed by PLP restores every flag and SP, and PHA followed by PLA restores A and SP, with
N and Z set from A; X, Y and the other flags are unchanged. (20_memory.md R48, 42_stack.md R120 to R123) -/
def Obligations.PushThenPullRestores : Prop :=
  ∀ s : State,
    (∃ t u, exec .php s = .next t ∧ exec .plp t = .next u ∧
      u = { s with pc := s.pc + 2, cycles := s.cycles + 7, life := .running, mem := t.mem }) ∧
    (∃ t u, exec .pha s = .next t ∧ exec .pla t = .next u ∧
      u = { s with pc := s.pc + 2, cycles := s.cycles + 7, life := .running, mem := t.mem, p := withNZ s.p s.a })

/-- AND, ORA and EOR have exactly the encodings, base cycles and penalties listed and complete in every form and
state: A becomes A and, or, exclusive-or M, N and Z follow the result, C and V and everything else but PC,
cycles and life are unchanged. The spec marks the rule as general knowledge (log entry 15). (R130, R131, R132) -/
def Obligations.LogicInstructionsCombineWithA : Prop :=
  forms .and = [(0x21, .izx, 6, .none), (0x25, .zp, 3, .none), (0x29, .imm, 2, .none), (0x2D, .abs, 4, .none),
    (0x31, .izy, 5, .pageCross), (0x35, .zpx, 4, .none), (0x39, .aby, 4, .pageCross), (0x3D, .abx, 4, .pageCross)] ∧
  forms .ora = [(0x01, .izx, 6, .none), (0x05, .zp, 3, .none), (0x09, .imm, 2, .none), (0x0D, .abs, 4, .none),
    (0x11, .izy, 5, .pageCross), (0x15, .zpx, 4, .none), (0x19, .aby, 4, .pageCross), (0x1D, .abx, 4, .pageCross)] ∧
  forms .eor = [(0x41, .izx, 6, .none), (0x45, .zp, 3, .none), (0x49, .imm, 2, .none), (0x4D, .abs, 4, .none),
    (0x51, .izy, 5, .pageCross), (0x55, .zpx, 4, .none), (0x59, .aby, 4, .pageCross), (0x5D, .abx, 4, .pageCross)] ∧
  ∀ (i : Instr) (s : State),
    (i.mnemonic = .and → ∃ M, readOperand i s = .ok M ∧
      exec i s = .next { done i s with a := s.a &&& M, p := withNZ s.p (s.a &&& M) }) ∧
    (i.mnemonic = .ora → ∃ M, readOperand i s = .ok M ∧
      exec i s = .next { done i s with a := s.a ||| M, p := withNZ s.p (s.a ||| M) }) ∧
    (i.mnemonic = .eor → ∃ M, readOperand i s = .ok M ∧
      exec i s = .next { done i s with a := s.a ^^^ M, p := withNZ s.p (s.a ^^^ M) })

/-- BIT has exactly the two encodings listed and completes in both forms and every state: Z is 1 exactly when A & M
is 0, N and V are bits 7 and 6 of the memory operand, and nothing else but PC, cycles and life changes. The spec
marks the rule as general knowledge (log entry 15). (R133) -/
def Obligations.BitTestsWithoutChangingA : Prop :=
  forms .bit = [(0x24, .zp, 3, .none), (0x2C, .abs, 4, .none)] ∧
  ∀ (i : Instr) (s : State),
    i.mnemonic = .bit → ∃ M, readOperand i s = .ok M ∧
      exec i s = .next { done i s with p := { s.p with z := decide (s.a &&& M = 0), n := bitOf M 7, v := bitOf M 6 } }

/-- ADC and SBC have exactly the encodings, base cycles and penalties listed and complete in every form and state.
With D = 0, for ADC with m = M and for SBC with m = M ^ $FF: s = A + m + C, A becomes r = s mod 256, C is s >
255, V is ((a ^ r) & (m ^ r) & $80) != 0, N and Z follow r. With D = 1 the result and N, V, Z, C are what
dec_adc or dec_sbc delivers for (A, M, C), whatever those functions are. D, I, B and everything else but PC,
cycles and life are unchanged. The spec marks the rule as general knowledge (log entry 15). (R134, R135) -/
def Obligations.AdcAndSbcFollowTheirPseudocode : Prop :=
  forms .adc = [(0x61, .izx, 6, .none), (0x65, .zp, 3, .none), (0x69, .imm, 2, .none), (0x6D, .abs, 4, .none),
    (0x71, .izy, 5, .pageCross), (0x75, .zpx, 4, .none), (0x79, .aby, 4, .pageCross), (0x7D, .abx, 4, .pageCross)] ∧
  forms .sbc = [(0xE1, .izx, 6, .none), (0xE5, .zp, 3, .none), (0xE9, .imm, 2, .none), (0xED, .abs, 4, .none),
    (0xF1, .izy, 5, .pageCross), (0xF5, .zpx, 4, .none), (0xF9, .aby, 4, .pageCross), (0xFD, .abx, 4, .pageCross)] ∧
  ∀ (i : Instr) (s : State),
    (i.mnemonic = .adc → ∃ M, readOperand i s = .ok M ∧
      let m := M
      let sum := s.a.toNat + m.toNat + carryNat s.p.c
      let r := BitVec.ofNat 8 (sum % 256)
      let dec := Config.decAdc s.a M s.p.c
      exec i s = .next (
        if s.p.d = false then
          { done i s with
            a := r
            p := withNZ { s.p with c := decide (255 < sum), v := decide ((s.a ^^^ r) &&& (m ^^^ r) &&& 0x80 ≠ 0) } r }
        else { done i s with a := dec.a, p := { s.p with n := dec.n, v := dec.v, z := dec.z, c := dec.c } })) ∧
    (i.mnemonic = .sbc → ∃ M, readOperand i s = .ok M ∧
      let m := M ^^^ 0xFF
      let sum := s.a.toNat + m.toNat + carryNat s.p.c
      let r := BitVec.ofNat 8 (sum % 256)
      let dec := Config.decSbc s.a M s.p.c
      exec i s = .next (
        if s.p.d = false then
          { done i s with
            a := r
            p := withNZ { s.p with c := decide (255 < sum), v := decide ((s.a ^^^ r) &&& (m ^^^ r) &&& 0x80 ≠ 0) } r }
        else { done i s with a := dec.a, p := { s.p with n := dec.n, v := dec.v, z := dec.z, c := dec.c } }))

/-- With D = 0, ADC leaves A = (A + M + C) mod 256, C = the unsigned sum exceeds 255 and V = the signed sum lies
outside -128..127; SBC leaves A = (A - M - (1 - C)) mod 256, C = no unsigned borrow and V = the signed
difference lies outside -128..127. (43_logic_arith.md R134, R135, R140, 95_test_vectors.md section 3.4) -/
def Obligations.BinaryAddAndSubtractAreExactArithmetic : Prop :=
  ∀ (i : Instr) (s : State), s.p.d = false →
    (i.mnemonic = .adc → ∃ M t, readOperand i s = .ok M ∧ exec i s = .next t ∧
      t.a.toNat = (s.a.toNat + M.toNat + carryNat s.p.c) % 256 ∧
      t.p.c = decide (255 < s.a.toNat + M.toNat + carryNat s.p.c) ∧
      t.p.v = decide (s.a.toInt + M.toInt + carryNat s.p.c < -128 ∨ 127 < s.a.toInt + M.toInt + carryNat s.p.c)) ∧
    (i.mnemonic = .sbc → ∃ M t, readOperand i s = .ok M ∧ exec i s = .next t ∧
      (t.a.toNat : Int) = ((s.a.toNat : Int) - M.toNat - (1 - carryNat s.p.c)) % 256 ∧
      t.p.c = decide (M.toNat + 1 ≤ s.a.toNat + carryNat s.p.c) ∧
      t.p.v = decide (s.a.toInt - M.toInt - (1 - carryNat s.p.c) < -128 ∨ 127 < s.a.toInt - M.toInt - (1 - carryNat s.p.c)))

/-- CMP, CPX and CPY have exactly the encodings, base cycles and penalties listed and complete in every form and
state: C is register >= M unsigned, Z is register = M, N is bit 7 of the difference mod 256; V, D, the old C,
the registers and memory play no part or stay unchanged; only PC, cycles and life change besides. The spec marks
the rule as general knowledge (log entry 15). (R136, R137, R138) -/
def Obligations.ComparesSetNZCAndStoreNothing : Prop :=
  forms .cmp = [(0xC1, .izx, 6, .none), (0xC5, .zp, 3, .none), (0xC9, .imm, 2, .none), (0xCD, .abs, 4, .none),
    (0xD1, .izy, 5, .pageCross), (0xD5, .zpx, 4, .none), (0xD9, .aby, 4, .pageCross), (0xDD, .abx, 4, .pageCross)] ∧
  forms .cpx = [(0xE0, .imm, 2, .none), (0xE4, .zp, 3, .none), (0xEC, .abs, 4, .none)] ∧
  forms .cpy = [(0xC0, .imm, 2, .none), (0xC4, .zp, 3, .none), (0xCC, .abs, 4, .none)] ∧
  ∀ (i : Instr) (s : State),
    (i.mnemonic = .cmp → ∃ M, readOperand i s = .ok M ∧
      exec i s = .next { done i s with p := { s.p with
        c := decide (M.toNat ≤ s.a.toNat), z := decide (s.a = M), n := bitOf (s.a - M) 7 } }) ∧
    (i.mnemonic = .cpx → ∃ M, readOperand i s = .ok M ∧
      exec i s = .next { done i s with p := { s.p with
        c := decide (M.toNat ≤ s.x.toNat), z := decide (s.x = M), n := bitOf (s.x - M) 7 } }) ∧
    (i.mnemonic = .cpy → ∃ M, readOperand i s = .ok M ∧
      exec i s = .next { done i s with p := { s.p with
        c := decide (M.toNat ≤ s.y.toNat), z := decide (s.y = M), n := bitOf (s.y - M) 7 } })

/-- INC and DEC have exactly the encodings and base cycles listed and complete in every form and state: the byte at
the effective address becomes m + 1 or m - 1 mod 256, N and Z follow the result, no other flag, no register and
no other byte changes; only PC, cycles and life change besides. The spec marks the rule as general knowledge
(log entry 15). (R150, R151) -/
def Obligations.IncAndDecMemoryWrap : Prop :=
  forms .inc = [(0xE6, .zp, 5, .none), (0xEE, .abs, 6, .none), (0xF6, .zpx, 6, .none), (0xFE, .abx, 7, .none)] ∧
  forms .dec = [(0xC6, .zp, 5, .none), (0xCE, .abs, 6, .none), (0xD6, .zpx, 6, .none), (0xDE, .abx, 7, .none)] ∧
  ∀ (i : Instr) (s : State),
    (i.mnemonic = .inc → ∃ ea, targetOf i s = .ok ea ∧
      let r := BitVec.ofNat 8 (((readByte s ea).toNat + 1) % 256)
      exec i s = .next (writeByte { done i s with p := withNZ s.p r } ea r)) ∧
    (i.mnemonic = .dec → ∃ ea, targetOf i s = .ok ea ∧
      let r := BitVec.ofNat 8 (((readByte s ea).toNat + 255) % 256)
      exec i s = .next (writeByte { done i s with p := withNZ s.p r } ea r))

/-- INX, INY, DEX and DEY have the encodings listed, take 2 cycles and complete in every state: the index register
becomes its value plus or minus one mod 256, N and Z follow the new value, and nothing else but PC, cycles and
life changes. The spec marks the rule as general knowledge (log entry 15). (R152, R153, R154, R155) -/
def Obligations.IndexIncrementsAndDecrementsWrap : Prop :=
  [forms .inx, forms .iny] = [[(0xE8, .imp, 2, .none)], [(0xC8, .imp, 2, .none)]] ∧
  [forms .dex, forms .dey] = [[(0xCA, .imp, 2, .none)], [(0x88, .imp, 2, .none)]] ∧
  ∀ s : State,
    exec .inx s = .next { done .inx s with
      x := BitVec.ofNat 8 ((s.x.toNat + 1) % 256), p := withNZ s.p (BitVec.ofNat 8 ((s.x.toNat + 1) % 256)) } ∧
    exec .iny s = .next { done .iny s with
      y := BitVec.ofNat 8 ((s.y.toNat + 1) % 256), p := withNZ s.p (BitVec.ofNat 8 ((s.y.toNat + 1) % 256)) } ∧
    exec .dex s = .next { done .dex s with
      x := BitVec.ofNat 8 ((s.x.toNat + 255) % 256), p := withNZ s.p (BitVec.ofNat 8 ((s.x.toNat + 255) % 256)) } ∧
    exec .dey s = .next { done .dey s with
      y := BitVec.ofNat 8 ((s.y.toNat + 255) % 256), p := withNZ s.p (BitVec.ofNat 8 ((s.y.toNat + 255) % 256)) }

/-- The four instructions have exactly the encodings and base cycles listed and complete in every form and state, on
A in the accumulator form and on the byte at the effective address otherwise: ASL gives 2m mod 256, ROL 2m + C
mod 256, both with C = bit 7; LSR gives m div 2, ROR m div 2 + 128 C, both with C = bit 0; N and Z follow the
result; nothing else but PC, cycles and life changes. The spec marks the rule as general knowledge (log entry
15). (R156, R157, R158, R159) -/
def Obligations.ShiftsAndRotatesMoveOneBitThroughCarry : Prop :=
  forms .asl = [(0x06, .zp, 5, .none), (0x0A, .acc, 2, .none), (0x0E, .abs, 6, .none), (0x16, .zpx, 6, .none),
    (0x1E, .abx, 7, .none)] ∧
  forms .lsr = [(0x46, .zp, 5, .none), (0x4A, .acc, 2, .none), (0x4E, .abs, 6, .none), (0x56, .zpx, 6, .none),
    (0x5E, .abx, 7, .none)] ∧
  forms .rol = [(0x26, .zp, 5, .none), (0x2A, .acc, 2, .none), (0x2E, .abs, 6, .none), (0x36, .zpx, 6, .none),
    (0x3E, .abx, 7, .none)] ∧
  forms .ror = [(0x66, .zp, 5, .none), (0x6A, .acc, 2, .none), (0x6E, .abs, 6, .none), (0x76, .zpx, 6, .none),
    (0x7E, .abx, 7, .none)] ∧
  ∀ (i : Instr) (s : State),
    (i.mnemonic = .asl →
      let r (m : Byte) : Byte := BitVec.ofNat 8 (2 * m.toNat % 256)
      let p (m : Byte) : Status := withNZ { s.p with c := bitOf m 7 } (r m)
      if i.operand = .acc then exec i s = .next { done i s with a := r s.a, p := p s.a }
      else ∃ ea, targetOf i s = .ok ea ∧
        exec i s = .next (writeByte { done i s with p := p (readByte s ea) } ea (r (readByte s ea)))) ∧
    (i.mnemonic = .lsr →
      let r (m : Byte) : Byte := BitVec.ofNat 8 (m.toNat / 2)
      let p (m : Byte) : Status := withNZ { s.p with c := bitOf m 0 } (r m)
      if i.operand = .acc then exec i s = .next { done i s with a := r s.a, p := p s.a }
      else ∃ ea, targetOf i s = .ok ea ∧
        exec i s = .next (writeByte { done i s with p := p (readByte s ea) } ea (r (readByte s ea)))) ∧
    (i.mnemonic = .rol →
      let r (m : Byte) : Byte := BitVec.ofNat 8 ((2 * m.toNat + carryNat s.p.c) % 256)
      let p (m : Byte) : Status := withNZ { s.p with c := bitOf m 7 } (r m)
      if i.operand = .acc then exec i s = .next { done i s with a := r s.a, p := p s.a }
      else ∃ ea, targetOf i s = .ok ea ∧
        exec i s = .next (writeByte { done i s with p := p (readByte s ea) } ea (r (readByte s ea)))) ∧
    (i.mnemonic = .ror →
      let r (m : Byte) : Byte := BitVec.ofNat 8 (m.toNat / 2 + 128 * carryNat s.p.c)
      let p (m : Byte) : Status := withNZ { s.p with c := bitOf m 0 } (r m)
      if i.operand = .acc then exec i s = .next { done i s with a := r s.a, p := p s.a }
      else ∃ ea, targetOf i s = .ok ea ∧
        exec i s = .next (writeByte { done i s with p := p (readByte s ea) } ea (r (readByte s ea))))

/-- JMP has exactly the two encodings listed and completes in both forms and every state: PC becomes the operand for
abs, and for ind the word at the pointer, its high byte found as JMP_IND_PAGE_WRAP says (its default;
IndirectTargetFollowsTheParameter has both values); only PC, cycles and life change. The spec marks the rule as
general knowledge (log entry 15). (R170) -/
def Obligations.JumpGoesToTheTarget : Prop :=
  forms .jmp = [(0x4C, .abs, 3, .none), (0x6C, .ind, 5, .none)] ∧
  ∀ (s : State) (w : Word),
    exec (.jmpAbs w) s = .next { done (.jmpAbs w) s with pc := w } ∧
    exec (.jmpInd w) s = .next { done (.jmpInd w) s with
      pc := BitVec.ofNat 16 (256 * (memRead s.mem
        (if Params.standard.jmpIndPageWrap = true then w.toNat / 256 * 256 + (w.toNat + 1) % 256 else (w.toNat + 1) % 65536)).toNat
        + (memRead s.mem w.toNat).toNat) }

/-- JSR completes in every state: PC becomes the operand, the high and low bytes of PC + 2 (the address of its last
byte) are pushed at $0100 + SP and below, SP falls by 2 mod 256, every other byte and everything but cycles and
life is unchanged; RTS completes in every state: PC becomes the pulled word plus 1 mod 65536, SP rises by 2 mod
256 and nothing else but cycles and life changes. From every state JSR followed by RTS leaves PC three bytes
past the JSR (mod 65536), SP and every register and flag as before, and 12 more cycles. The return-address
convention is the decision D20 of the spec. (45_control_flow.md R171, R172, 92_eei_decisions.md D20) -/
def Obligations.JsrPushesItsLastAddressAndRtsReturns : Prop :=
  [forms .jsr, forms .rts] = [[(0x20, .abs, 6, .none)], [(0x60, .imp, 6, .none)]] ∧
  ∀ (s : State) (w : Word),
    (∃ t, exec (.jsr w) s = .next t ∧
      t = { done (.jsr w) s with pc := w, sp := BitVec.ofNat 8 ((s.sp.toNat + 254) % 256), mem := t.mem } ∧
      (readByte t (stackSlot s 0)).toNat = (s.pc.toNat + 2) % 65536 / 256 ∧
      (readByte t (stackSlot s 1)).toNat = (s.pc.toNat + 2) % 256 ∧
      ∀ addr : Word, addr ≠ stackSlot s 0 → addr ≠ stackSlot s 1 → readByte t addr = readByte s addr) ∧
    (exec .rts s = .next { done .rts s with
      pc := BitVec.ofNat 16 (256 * (stackByte s 2).toNat + (stackByte s 1).toNat + 1)
      sp := BitVec.ofNat 8 ((s.sp.toNat + 2) % 256) }) ∧
    ∃ t u, exec (.jsr w) s = .next t ∧ exec .rts t = .next u ∧
      u = { s with pc := s.pc + 3, cycles := s.cycles + 12, life := .running, mem := t.mem }

/-- Of the entries of EXT_TABLE for a byte the one registered last is found. On the machine with any parameters, in
Ready or Running: an opcode byte with an entry runs the semantics the entry brings on the operand its mode
resolves to, with PC past the instruction, and completes at the cost R96 computes from the row of the entry, or
faults with InvalidAddressingModeUse where the semantics cannot use the operand, PC and cycles having advanced
by the bytes of the instruction (decision D25 of the spec, log entry 13); a byte without an entry faults if it
is one of the 105 of R66 (decision D3 of the spec) and otherwise runs the instruction of the base table. With
the default parameters this machine is that of exec and step, and only ADC, SBC and JMP (indirect) depend on a
parameter. (00_scope.md R6, 30_encoding.md R67, R68, 40_addressing_modes.md R80, R95, R96, 60_exceptions.md
R211, R212, 92_eei_decisions.md D2, D3, D25, log entries 4, 7, 10, 13 and 17) -/
def Obligations.ExtensionTableOverlaysTheBaseTable : Prop :=
  (∀ (es : List ExtEntry) (e : ExtEntry) (b : Byte), extLookup [] b = none ∧
    extLookup (es ++ [e]) b = if e.opcode = b then some e else extLookup es b) ∧
  (∀ s : State, stepIn Params.standard s = step s) ∧
  (∀ (i : Instr) (s : State), execIn Params.standard i s = exec i s ∧
    ∀ p : Params, i.mnemonic ∉ [.adc, .sbc] → i.operand.mode ≠ .ind → execIn p i s = exec i s) ∧
  ∀ (p : Params) (s : State), Live s →
    (∀ e, extLookup p.extTable (readByte s s.pc) = some e →
      let s1 := { s with pc := s.pc + BitVec.ofNat 16 e.mode.length }
      let op := resolveIn p (assembleOperand e.mode (readByte s (s.pc + 1)) (readByte s (s.pc + 2))) s1
      (∀ t taken, e.semantics op s1 = some (t, taken) →
        stepIn p s = .next { t with
          cycles := s.cycles + e.cycles
            + (if e.penalty = .pageCross ∧ op.crossed = true then 1 else 0)
            + (if e.penalty = .branch ∧ taken = true then 1 + (if op.crossed = true then 1 else 0) else 0)
          life := .running }) ∧
      (e.semantics op s1 = none →
        hostOpIn p .step s = ⟨{ s1 with cycles := s.cycles + e.mode.length, life := .faulted },
          .fault .invalidAddressingModeUse⟩)) ∧
    (extLookup p.extTable (readByte s s.pc) = none →
      (readByte s s.pc ∈ unmappedBytes → stepIn p s = .fault (.unknownOpcode (readByte s s.pc) s.pc)) ∧
      ∀ i, decode (readByte s s.pc) (readByte s (s.pc + 1)) (readByte s (s.pc + 2)) = .ok i →
        stepIn p s = execIn p i s)

/-- BCC, BCS, BEQ, BNE, BMI, BPL, BVC and BVS have the encodings listed and complete in every state: with next the
address two past the branch and target = next + signed offset mod 65536, PC becomes target when the tested flag
has the value the mnemonic names and next otherwise; the cost is 2, plus 1 if taken, plus 1 more if taken to
another page than next (decision D11 of the spec); nothing else but life changes, no flag among it.
(45_control_flow.md R173 to R181, 92_eei_decisions.md D11) -/
def Obligations.BranchesGoToTheTargetWhenTheirFlagSays : Prop :=
  [forms .bpl, forms .bmi, forms .bvc, forms .bvs, forms .bcc, forms .bcs, forms .bne, forms .beq] =
    [0x10, 0x30, 0x50, 0x70, 0x90, 0xB0, 0xD0, 0xF0].map (fun b => [(b, .rel, 2, .branch)]) ∧
  ∀ (i : Instr) (s : State) (o : Byte) (cond : Bool),
    (i, cond) ∈ [(.bcc o, !s.p.c), (.bcs o, s.p.c), (.beq o, s.p.z), (.bne o, !s.p.z),
      (.bmi o, s.p.n), (.bpl o, !s.p.n), (.bvc o, !s.p.v), (.bvs o, s.p.v)] →
    let next := BitVec.ofNat 16 (s.pc.toNat + 2)
    let target := BitVec.ofInt 16 (next.toNat + o.toInt)
    exec i s = .next { s with
      pc := if cond then target else next
      cycles := s.cycles + 2 + (if cond then (if next.toNat / 256 = target.toNat / 256 then 1 else 2) else 0)
      life := .running }

/-- CLC, SEC, CLI, SEI and NOP have the encodings listed, take 2 cycles and complete in every state: each writes the
one flag its rule names to the value it names, NOP writes none, and nothing else but PC, cycles and life
changes; after CLI the next interrupt() is taken; after SEI it changes nothing, while a non-maskable interrupt
and a BRK are still taken; $EA is the only encoding of NOP and no byte of R66 completes a step. The entries the
clauses on interrupts name are those of R221 to R223 and R198: that bit 4 of the pushed byte is 0 or 1, that an
ignored IRQ is dropped and that D is unchanged are the decisions D5, D15 and D19 of the spec. The spec marks the
rule as general knowledge (log entry 15). (46_flag_system.md R190, R191, R192, R193, R197, R198,
60_exceptions.md R221, R222, R223, 30_encoding.md R66, 92_eei_decisions.md D5, D15, D19) -/
def Obligations.FlagInstructionsWriteOneFlagAndNopNone : Prop :=
  [forms .clc, forms .sec, forms .cli, forms .sei, forms .nop] =
    [0x18, 0x38, 0x58, 0x78, 0xEA].map (fun b => [(b, .imp, 2, .none)]) ∧
  ∀ s : State,
    exec .clc s = .next { done .clc s with p := { s.p with c := false } } ∧
    exec .sec s = .next { done .sec s with p := { s.p with c := true } } ∧
    exec .cli s = .next { done .cli s with p := { s.p with i := false } } ∧
    exec .sei s = .next { done .sei s with p := { s.p with i := true } } ∧
    exec .nop s = .next (done .nop s) ∧
    (∃ t u, exec .cli s = .next t ∧ interrupt t = .next u ∧ Entered t u t.pc false 0xFFFE) ∧
    (∃ t u v, exec .sei s = .next t ∧ interrupt t = .next t ∧
      nonMaskableInterrupt t = .next u ∧ Entered t u t.pc false 0xFFFA ∧
      exec .brk t = .next v ∧ Entered t v (t.pc + 2) true 0xFFFE) ∧
    (Live s → readByte s s.pc ∈ unmappedBytes → ∀ t, step s ≠ .next t)

/-- CLD, SED and CLV have the encodings listed, take 2 cycles and complete in every state, writing their flag and
nothing else but PC, cycles and life. On the machine with any parameters, in every form: after CLD, ADC and SBC
take the binary sum and difference with their N, V, Z and C; after SED, A, N, V, Z and C are what dec_adc or
dec_sbc of the parameter DECIMAL (decision D4 of the spec, log entry 2) delivers for A, M and C, and nothing
else but PC, cycles and life changes. Of the instructions only CLD, PLP and RTI clear D, only SED, PLP and RTI
set it, and only ADC, SBC, BIT, PLP and RTI set V. (46_flag_system.md R194, R195, R196, 43_logic_arith.md R134,
R135, R139, 10_state.md R18, 00_scope.md R6, 92_eei_decisions.md D4, log entry 2) -/
def Obligations.DecimalAndOverflowFlagInstructions : Prop :=
  [forms .cld, forms .sed, forms .clv] = [0xD8, 0xF8, 0xB8].map (fun b => [(b, .imp, 2, .none)]) ∧
  (∀ s : State,
    exec .cld s = .next { done .cld s with p := { s.p with d := false } } ∧
    exec .sed s = .next { done .sed s with p := { s.p with d := true } } ∧
    exec .clv s = .next { done .clv s with p := { s.p with v := false } }) ∧
  (∀ (p : Params) (i : Instr) (s t : State), exec .cld s = .next t →
    (i.mnemonic = .adc → ∃ M u, readOperand i t = .ok M ∧ execIn p i t = .next u ∧
      u.a.toNat = (t.a.toNat + M.toNat + carryNat t.p.c) % 256 ∧
      u.p.c = decide (255 < t.a.toNat + M.toNat + carryNat t.p.c) ∧
      u.p.v = decide (t.a.toInt + M.toInt + carryNat t.p.c < -128 ∨ 127 < t.a.toInt + M.toInt + carryNat t.p.c) ∧
      u.p.n = decide (128 ≤ u.a.toNat) ∧ u.p.z = decide (u.a.toNat = 0)) ∧
    (i.mnemonic = .sbc → ∃ M u, readOperand i t = .ok M ∧ execIn p i t = .next u ∧
      (u.a.toNat : Int) = ((t.a.toNat : Int) - M.toNat - (1 - carryNat t.p.c)) % 256 ∧
      u.p.c = decide (M.toNat + 1 ≤ t.a.toNat + carryNat t.p.c) ∧
      u.p.v = decide (t.a.toInt - M.toInt - (1 - carryNat t.p.c) < -128 ∨
        127 < t.a.toInt - M.toInt - (1 - carryNat t.p.c)) ∧
      u.p.n = decide (128 ≤ u.a.toNat) ∧ u.p.z = decide (u.a.toNat = 0))) ∧
  (∀ (p : Params) (i : Instr) (s t : State), exec .sed s = .next t →
    (i.mnemonic = .adc → ∃ M, readOperand i t = .ok M ∧
      let r := p.decAdc t.a M t.p.c
      execIn p i t = .next { done i t with a := r.a, p := { t.p with n := r.n, v := r.v, z := r.z, c := r.c } }) ∧
    (i.mnemonic = .sbc → ∃ M, readOperand i t = .ok M ∧
      let r := p.decSbc t.a M t.p.c
      execIn p i t = .next { done i t with a := r.a, p := { t.p with n := r.n, v := r.v, z := r.z, c := r.c } })) ∧
  ∀ (i : Instr) (s t : State), exec i s = .next t →
    (s.p.d = true → t.p.d = false → i.mnemonic ∈ [.cld, .plp, .rti]) ∧
    (s.p.d = false → t.p.d = true → i.mnemonic ∈ [.sed, .plp, .rti]) ∧
    (s.p.v = false → t.p.v = true → i.mnemonic ∈ [.adc, .sbc, .bit, .plp, .rti])

/-- BRK has the encoding listed and completes in every state, whether I is 0 or 1: the high and low bytes of its
address + 2 and the status byte {N, V, 1, 1, D, old I, Z, C} are pushed in page $01, SP falls by 3 mod 256, I
becomes 1, PC becomes the word at $FFFE, 7 cycles are charged; A, X, Y, the other flags, the stored B and every
other byte are unchanged. The padding byte, bit 4 and D unchanged are the decisions D5 and D19 of the spec.
(46_flag_system.md R198, 60_exceptions.md R223, 92_eei_decisions.md D5, D19) -/
def Obligations.BrkEntersTheIrqHandler : Prop :=
  forms .brk = [(0x00, .imp, 7, .none)] ∧
  ∀ s : State, ∃ t, exec .brk s = .next t ∧ Entered s t (s.pc + 2) true 0xFFFE ∧
    t.cycles = s.cycles + 7 ∧ t.life = .running

/-- RTI has the encoding listed and completes in every state: N V D I Z C come from the byte one above SP, bits 5
and 4 are discarded and P.B kept (decision D6 of the spec), PC is the word two and three above SP, SP rises by 3
mod 256, 6 cycles are charged, nothing else changes but life. (46_flag_system.md R199, 60_exceptions.md R226,
92_eei_decisions.md D6) -/
def Obligations.RtiRestoresFlagsAndPc : Prop :=
  forms .rti = [(0x40, .imp, 6, .none)] ∧
  ∀ s : State, exec .rti s = .next { done .rti s with
    p := loaded s.p (stackByte s 1)
    pc := BitVec.ofNat 16 (256 * (stackByte s 3).toNat + (stackByte s 2).toNat)
    sp := BitVec.ofNat 8 ((s.sp.toNat + 3) % 256) }

/-- In Ready or Running: interrupt() with I = 1 changes nothing; with I = 0 it pushes PC and the status byte with
bit 4 = 0, sets I, loads PC from $FFFE and charges 7 cycles; non_maskable_interrupt() does the same through
$FFFA whatever I is; life is unchanged by both. Bit 4 = 0, the 7 cycles, that an ignored IRQ is dropped and D
unchanged are the decisions D5, D14, D15 and D19 of the spec. (60_exceptions.md R221, R222, R223,
92_eei_decisions.md D5, D14, D15, D19) -/
def Obligations.InterruptRequestsEnterTheirHandlers : Prop :=
  ∀ s : State, Live s →
    (s.p.i = true → interrupt s = .next s) ∧
    (s.p.i = false → ∃ t, interrupt s = .next t ∧ Entered s t s.pc false 0xFFFE ∧
      t.cycles = s.cycles + 7 ∧ t.life = s.life) ∧
    (∃ t, nonMaskableInterrupt s = .next t ∧ Entered s t s.pc false 0xFFFA ∧ t.cycles = s.cycles + 7 ∧ t.life = s.life)

/-- In Ready or Running: calling non_maskable_interrupt() and then interrupt() leaves the state the NMI alone
leaves; with I = 0, calling interrupt() and then non_maskable_interrupt() takes both: PC is the NMI vector, and
the RTI that ends the NMI handler at once would resume at the first instruction of the IRQ handler.
(60_exceptions.md R224, 92_eei_decisions.md D15) -/
def Obligations.NmiMasksAFollowingIrqButNotTheOtherWayRound : Prop :=
  ∀ s : State, Live s →
    session [.nonMaskableInterrupt, .interrupt] s = session [.nonMaskableInterrupt] s ∧
    (s.p.i = false → ∃ t u v, interrupt s = .next t ∧ nonMaskableInterrupt t = .next u ∧
      u.pc.toNat = 256 * (memRead s.mem 0xFFFB).toNat + (memRead s.mem 0xFFFA).toNat ∧ u.sp = s.sp - 6 ∧
      t.pc.toNat = 256 * (memRead s.mem 0xFFFF).toNat + (memRead s.mem 0xFFFE).toNat ∧
      exec .rti u = .next v ∧ v.pc = t.pc)

/-- BRK then RTI leaves every register, SP and flag as before and PC two past the BRK; in Ready or Running an IRQ
that is taken, and an NMI, followed by RTI leave every register, SP and flag as before and PC where the program
was interrupted; each pair costs 13 cycles and changes memory only by the entry's pushes. (46_flag_system.md
R199, 60_exceptions.md R223, R226, 92_eei_decisions.md D6, D19) -/
def Obligations.RtiUndoesEveryInterruptEntry : Prop :=
  ∀ s : State,
    (∃ t u, exec .brk s = .next t ∧ exec .rti t = .next u ∧
      u = { s with pc := s.pc + 2, cycles := s.cycles + 13, life := .running, mem := t.mem }) ∧
    (Live s → s.p.i = false → ∃ t u, interrupt s = .next t ∧ exec .rti t = .next u ∧
      u = { s with cycles := s.cycles + 13, life := .running, mem := t.mem }) ∧
    (Live s → ∃ t u, nonMaskableInterrupt s = .next t ∧ exec .rti t = .next u ∧
      u = { s with cycles := s.cycles + 13, life := .running, mem := t.mem })

/-- For every instruction but STA, STX, STY, INC, DEC, the memory forms of ASL, LSR, ROL, ROR, and PHA, PHP, JSR,
BRK: if it completes, every address reads after it as before. (41_load_store_transfer.md, 42_stack.md,
43_logic_arith.md, 44_incdec_shift.md, 45_control_flow.md, 46_flag_system.md, 10_state.md R24) -/
def Obligations.InstructionsThatStoreNothingLeaveMemory : Prop :=
  ∀ (i : Instr) (s t : State), storesByte i = false → pushCount i = 0 → exec i s = .next t →
    ∀ a : Word, readByte t a = readByte s a

/-- For STA, STX, STY, INC, DEC and the memory forms of ASL, LSR, ROL, ROR: if the address the operand resolves to
is ea, every address but ea reads after the instruction as before. For PHA, PHP (one push), JSR (two) and BRK
(three): every address outside the slots $0100 + ((SP - k) mod 256), k below the number of pushes, reads as
before. (41_load_store_transfer.md, 42_stack.md, 43_logic_arith.md, 44_incdec_shift.md, 45_control_flow.md,
46_flag_system.md, 44_incdec_shift.md R160, 20_memory.md R47, R51) -/
def Obligations.StoringInstructionsTouchOnlyTheirBytes : Prop :=
  ∀ (i : Instr) (s t : State), exec i s = .next t →
    (storesByte i = true → ∀ ea : Word, targetOf i s = .ok ea → ∀ a : Word, a ≠ ea → readByte t a = readByte s a) ∧
    (pushCount i ≠ 0 → ∀ a : Word, (∀ k, k < pushCount i → a ≠ stackSlot s k) → readByte t a = readByte s a)

/-- If an instruction completes: A is unchanged unless it is LDA, TXA, TYA, PLA, AND, ORA, EOR, ADC, SBC or an
accumulator shift or rotate; X unless it is LDX, TAX, TSX, INX or DEX; Y unless it is LDY, TAY, INY or DEY; SP
unless it is TXS, PHA, PHP, PLA, PLP, JSR, RTS, BRK or RTI. (10_state.md R10, R11, R13,
41_load_store_transfer.md, 42_stack.md, 43_logic_arith.md, 44_incdec_shift.md, 45_control_flow.md,
46_flag_system.md) -/
def Obligations.RegistersChangeOnlyByTheirWriters : Prop :=
  ∀ (i : Instr) (s t : State), exec i s = .next t →
    (i.mnemonic ∉ [.lda, .txa, .tya, .pla, .and, .ora, .eor, .adc, .sbc] → i.operand ≠ .acc → t.a = s.a) ∧
    (i.mnemonic ∉ [.ldx, .tax, .tsx, .inx, .dex] → t.x = s.x) ∧
    (i.mnemonic ∉ [.ldy, .tay, .iny, .dey] → t.y = s.y) ∧
    (i.mnemonic ∉ [.txs, .pha, .php, .pla, .plp, .jsr, .rts, .brk, .rti] → t.sp = s.sp)

/-- If an instruction completes, each flag is unchanged unless the table of R18 names it for that instruction: N and
Z by the loads, transfers but TXS, PLA, logic, arithmetic, compares, BIT, increments, decrements, shifts, PLP,
RTI; V by ADC, SBC, BIT, CLV, PLP, RTI; C by ADC, SBC, the compares, shifts, CLC, SEC, PLP, RTI; D by CLD, SED,
PLP, RTI; I by CLI, SEI, PLP, RTI, BRK; B by none (decision D5 of the spec). (10_state.md R18,
92_eei_decisions.md D5, D6, D19) -/
def Obligations.FlagsChangeOnlyByTheirWriters : Prop :=
  ∀ (i : Instr) (s t : State), exec i s = .next t →
    (i.mnemonic ∉ [.lda, .ldx, .ldy, .tax, .tay, .txa, .tya, .tsx, .pla, .and, .ora, .eor, .inc, .dec, .inx, .iny, .dex,
      .dey, .adc, .sbc, .cmp, .cpx, .cpy, .asl, .lsr, .rol, .ror, .bit, .plp, .rti] → t.p.n = s.p.n ∧ t.p.z = s.p.z) ∧
    (i.mnemonic ∉ [.adc, .sbc, .bit, .clv, .plp, .rti] → t.p.v = s.p.v) ∧
    (i.mnemonic ∉ [.adc, .sbc, .cmp, .cpx, .cpy, .asl, .lsr, .rol, .ror, .clc, .sec, .plp, .rti] → t.p.c = s.p.c) ∧
    (i.mnemonic ∉ [.cld, .sed, .plp, .rti] → t.p.d = s.p.d) ∧
    (i.mnemonic ∉ [.cli, .sei, .plp, .rti, .brk] → t.p.i = s.p.i) ∧
    t.p.b = s.p.b

/-- After any completed instruction (a store, a read-modify-write form, a push, JSR, BRK, or one that stores
nothing) every address holds the byte the instruction stored there, as its rule gives it, or else the byte it
held before; and the next step faults on the byte then at PC if that is unmapped and otherwise runs the
instruction that the bytes then at PC, PC + 1 and PC + 2 decode to, whichever of them was just stored. Bit 4 of
a pushed status byte, the single write of a read-modify-write form and the address JSR pushes are the decisions
D5, D13 and D20 of the spec. (20_memory.md R47, R51, R53, R55, 70_reset_and_hazards.md R251, 44_incdec_shift.md
R160, 46_flag_system.md R198, 92_eei_decisions.md D5, D13, D20) -/
def Obligations.StoreIsSeenByTheNextFetch : Prop :=
  ∀ (i : Instr) (s t : State), exec i s = .next t →
    (∀ a : Word, readByte t a = byteAfter i s a) ∧
    (byteAfter i s t.pc ∈ unmappedBytes → step t = .fault (.unknownOpcode (byteAfter i s t.pc) t.pc)) ∧
    ∀ j, decode (byteAfter i s t.pc) (byteAfter i s (t.pc + 1)) (byteAfter i s (t.pc + 2)) = .ok j →
      step t = exec j t

/-- In Ready or Running, a step that completes emits BeforeInstruction with the opcode byte, seen with PC and cycles
advanced by 1, and then AfterInstruction with the opcode byte and the cycles the table charges, seen in the next
state; a step that faults or is refused emits nothing. (10_state.md R27, 92_eei_decisions.md D22) -/
def Obligations.StepEmitsTwoEventsWhenItCompletes : Prop :=
  ∀ s : State,
    (∀ i, Live s → fetchInstr s = .ok i → ∃ t, step s = .next t ∧ stepEvents s =
      [⟨.beforeInstruction (readByte s s.pc), { s with pc := s.pc + 1, cycles := s.cycles + 1 }⟩,
       ⟨.afterInstruction (readByte s s.pc) (cost i s), t⟩]) ∧
    ((∀ t, step s ≠ .next t) → stepEvents s = [])

/-- Reset leaves life = Ready from any state; in Ready or Running a step either completes and leaves Running or
faults and leaves Faulted (decision D3 of the spec); interrupt, non_maskable_interrupt and the memory writes
leave life unchanged in every state. (10_state.md R21, 60_exceptions.md R221, R222, 92_eei_decisions.md D3) -/
def Obligations.LifecycleFollowsTheOperations : Prop :=
  ∀ s : State,
    (hostOp .reset s).state.life = .ready ∧
    (Live s → ((hostOp .step s).report = .done ∧ (hostOp .step s).state.life = .running) ∨
      (∃ f, (hostOp .step s).report = .fault f ∧ (hostOp .step s).state.life = .faulted)) ∧
    (hostOp .interrupt s).state.life = s.life ∧ (hostOp .nonMaskableInterrupt s).state.life = s.life ∧
    (∀ addr v, (hostOp (.write addr v) s).state.life = s.life) ∧
    (∀ addr w, (hostOp (.writeWord addr w) s).state.life = s.life)

/-- For every image of at most 65536 bytes that does not itself cover the reset vector, loading it at an origin and
resetting leaves PC = origin, life = Ready and byte k of the image at (origin + k) mod 65536.
(70_reset_and_hazards.md R246, 60_exceptions.md R233) -/
def Obligations.LoadedImageStartsAtItsOrigin : Prop :=
  ∀ (origin : Word) (image : List Byte) (s : State), image.length ≤ 65536 →
    (∀ k, k < image.length → origin + BitVec.ofNat 16 k ≠ 0xFFFC ∧ origin + BitVec.ofNat 16 k ≠ 0xFFFD) →
    let t := (hostOp .reset (loadImage origin image s)).state
    t.pc = origin ∧ t.life = .ready ∧
    ∀ (k : Nat) (h : k < image.length), readByte t (origin + BitVec.ofNat 16 k) = image[k]
end

