-- ==== Sys2Proof/Laws/Bits.lean ====
section
/-! SUPPORT. The bit operations as numbers: extensions, the page comparison, bit tests. -/

namespace Sys2Proof.Machine

theorem ofNat16_toNat (n : Nat) : BitVec.toNat (BitVec.ofNat 16 n) = n % 65536 := BitVec.toNat_ofNat n 16

theorem zext16_toNat (b : Byte) : (zext16 b).toNat = b.toNat := by
  have := b.isLt
  simp only [zext16, BitVec.toNat_setWidth]
  omega

/-- The sign-extended byte is its two's complement value mod 65536. -/
theorem sext16_toNat : ∀ b : Byte, ((sext16 b).toNat : Int) = b.toInt % 65536 := by decide +kernel

/-- Two addresses lie in different pages exactly when their high bytes differ. -/
theorem pageCrossed_eq (a b : Word) : pageCrossed a b = decide (a.toNat / 256 ≠ b.toNat / 256) := by
  have h : pageCrossed a b = decide (hiByte a ≠ hiByte b) := by
    unfold pageCrossed
    rw [Bool.eq_iff_iff]
    simp only [bne_iff_ne, decide_eq_true_eq, ne_eq, not_iff_not]
    constructor
    · intro h
      apply BitVec.eq_of_getLsbD_eq
      intro i hi
      have := congrArg (fun x => x.getLsbD i) h
      simp at this
      simp only [hiByte, BitVec.getLsbD_extractLsb', hi, decide_true, Bool.true_and]
      simpa using this
    · intro h
      apply BitVec.eq_of_getLsbD_eq
      intro i hi
      by_cases h8 : i < 8
      · have := congrArg (fun x => x.getLsbD i) h
        simp [hiByte, h8] at this
        simp [this]
      · simp [BitVec.getLsbD_of_ge _ (8 + i) (by omega : 16 ≤ 8 + i)]
  rw [h, ← hiByte_toNat, ← hiByte_toNat]
  simp only [ne_eq, BitVec.toNat_inj]

/-- The high bit of a byte, as a comparison. -/
theorem bit7_eq (r : Byte) : r.getLsbD 7 = decide (0x80 ≤ r.toNat) := by
  have := BitVec.msb_eq_decide r
  simpa [BitVec.msb, BitVec.getMsbD] using this

theorem add_one_ne (a : Word) : a + 1 ≠ a := by
  intro h
  have := congrArg BitVec.toNat h
  simp only [BitVec.toNat_add] at this
  have := a.isLt
  simp at *

end Sys2Proof.Machine
end

