-- ==== Sys2Proof/Laws/Memory.lean ====
section
/-! SUPPORT. The laws of memory: reading after a write, and that a write keeps the canonical form. -/

namespace Sys2Proof.Machine

@[simp] theorem memRead_nil (a : Nat) : memRead [] a = unlistedByte := rfl

theorem memRead_cons (k : Nat) (b : Byte) (m : Memory) (a : Nat) :
    memRead ((k, b) :: m) a = if a = k then b else memRead m a := rfl

theorem memRead_eraseCell (m : Memory) (a x : Nat) :
    memRead (eraseCell m a) x = if x = a then unlistedByte else memRead m x := by
  induction m with
  | nil => simp [eraseCell]
  | cons cell m ih =>
    obtain ⟨k, b⟩ := cell
    by_cases hk : a = k
    · subst hk
      rw [eraseCell, if_pos rfl, ih, memRead_cons]
      split <;> rfl
    · rw [eraseCell, if_neg hk, memRead_cons, ih, memRead_cons]
      split
      · rename_i hx
        rw [if_neg (by omega)]
      · rfl

theorem memRead_insertCell (m : Memory) (a x : Nat) (v : Byte) (h : memRead m a = unlistedByte ∨ x ≠ a)
    (hm : ∀ cell ∈ m, cell.1 ≠ a) : memRead (insertCell m a v) x = if x = a then v else memRead m x := by
  induction m with
  | nil => rfl
  | cons cell m ih =>
    obtain ⟨k, b⟩ := cell
    have hk : k ≠ a := hm (k, b) (by simp)
    have hrest : ∀ c ∈ m, c.1 ≠ a := fun c hc => hm c (by simp [hc])
    by_cases hak : a < k
    · rw [insertCell, if_pos hak]
      rfl
    · rw [insertCell, if_neg hak, memRead_cons, memRead_cons, ih ?_ hrest]
      · split
        · rename_i hx
          rw [if_neg (by omega)]
        · rfl
      · rwa [memRead_cons, if_neg (Ne.symm hk)] at h

theorem eraseCell_ne (m : Memory) (a : Nat) : ∀ cell ∈ eraseCell m a, cell.1 ≠ a := by
  induction m with
  | nil => simp [eraseCell]
  | cons cell m ih =>
    obtain ⟨k, b⟩ := cell
    rw [eraseCell]
    split
    · exact ih
    · intro c hc
      rcases List.mem_cons.mp hc with rfl | hc
      · simpa using Ne.symm ‹_›
      · exact ih c hc

/-- Reading after a write gives the value written there and leaves every other address alone. -/
theorem memRead_memWrite (m : Memory) (a x : Nat) (v : Byte) :
    memRead (memWrite m a v) x = if x = a then v else memRead m x := by
  unfold memWrite
  split
  · rename_i hv
    rw [memRead_eraseCell, hv]
  · rw [memRead_insertCell _ _ _ _ (.inl (by rw [memRead_eraseCell, if_pos rfl])) (eraseCell_ne m a),
      memRead_eraseCell]
    split <;> rfl

theorem wfFrom_mono {m : Memory} {lo lo' : Nat} (h : wfFrom lo m = true) (hl : lo' ≤ lo) : wfFrom lo' m = true := by
  cases m with
  | nil => rfl
  | cons cell m =>
    simp only [wfFrom, Bool.and_eq_true, decide_eq_true_eq] at h ⊢
    exact ⟨⟨⟨by omega, h.1.1.2⟩, h.1.2⟩, h.2⟩

theorem wfFrom_eraseCell {m : Memory} {lo : Nat} (h : wfFrom lo m = true) (a : Nat) : wfFrom lo (eraseCell m a) = true := by
  induction m generalizing lo with
  | nil => rfl
  | cons cell m ih =>
    obtain ⟨k, b⟩ := cell
    simp only [wfFrom, Bool.and_eq_true, decide_eq_true_eq] at h
    rw [eraseCell]
    split
    · exact wfFrom_mono (ih h.2) (by omega)
    · simp only [wfFrom, Bool.and_eq_true, decide_eq_true_eq]
      exact ⟨h.1, ih h.2⟩

theorem wfFrom_insertCell {m : Memory} {lo a : Nat} {v : Byte} (h : wfFrom lo m = true)
    (hm : ∀ cell ∈ m, cell.1 ≠ a) (hl : lo ≤ a) (ha : a < 65536) (hv : v ≠ unlistedByte) :
    wfFrom lo (insertCell m a v) = true := by
  induction m generalizing lo with
  | nil => simp [insertCell, wfFrom, hl, ha, hv]
  | cons cell m ih =>
    obtain ⟨k, b⟩ := cell
    have hk : k ≠ a := hm (k, b) (by simp)
    simp only [wfFrom, Bool.and_eq_true, decide_eq_true_eq] at h
    rw [insertCell]
    split
    · simp only [wfFrom, Bool.and_eq_true, decide_eq_true_eq]
      exact ⟨⟨⟨hl, ha⟩, hv⟩, ⟨⟨by omega, h.1.1.2⟩, h.1.2⟩, h.2⟩
    · simp only [wfFrom, Bool.and_eq_true, decide_eq_true_eq]
      exact ⟨h.1, ih h.2 (fun c hc => hm c (by simp [hc])) (by omega)⟩

/-- A write keeps the canonical form. -/
theorem memWrite_wf {m : Memory} (h : Memory.wf m = true) (a : Nat) (ha : a < 65536) (v : Byte) :
    Memory.wf (memWrite m a v) = true := by
  unfold memWrite
  split
  · exact wfFrom_eraseCell h a
  · exact wfFrom_insertCell (wfFrom_eraseCell h a) (eraseCell_ne m a) (Nat.zero_le _) ha ‹_›

theorem State.reset_mem_wf : Memory.wf State.reset.mem = true := rfl

end Sys2Proof.Machine
end

