-- ==== Sys2Proof/Laws/State.lean ====
section
/-! SUPPORT. One lemma per field per update of the state. -/

namespace Sys2Proof.Machine

@[simp] theorem setA_a (s : State) (v : Byte) : (s.setA v).a = v := rfl
@[simp] theorem setA_x (s : State) (v : Byte) : (s.setA v).x = s.x := rfl
@[simp] theorem setA_y (s : State) (v : Byte) : (s.setA v).y = s.y := rfl
@[simp] theorem setA_sp (s : State) (v : Byte) : (s.setA v).sp = s.sp := rfl
@[simp] theorem setA_pc (s : State) (v : Byte) : (s.setA v).pc = s.pc := rfl
@[simp] theorem setA_p (s : State) (v : Byte) : (s.setA v).p = s.p := rfl
@[simp] theorem setA_cycles (s : State) (v : Byte) : (s.setA v).cycles = s.cycles := rfl
@[simp] theorem setA_life (s : State) (v : Byte) : (s.setA v).life = s.life := rfl
@[simp] theorem setA_mem (s : State) (v : Byte) : (s.setA v).mem = s.mem := rfl

@[simp] theorem setX_a (s : State) (v : Byte) : (s.setX v).a = s.a := rfl
@[simp] theorem setX_x (s : State) (v : Byte) : (s.setX v).x = v := rfl
@[simp] theorem setX_y (s : State) (v : Byte) : (s.setX v).y = s.y := rfl
@[simp] theorem setX_sp (s : State) (v : Byte) : (s.setX v).sp = s.sp := rfl
@[simp] theorem setX_pc (s : State) (v : Byte) : (s.setX v).pc = s.pc := rfl
@[simp] theorem setX_p (s : State) (v : Byte) : (s.setX v).p = s.p := rfl
@[simp] theorem setX_cycles (s : State) (v : Byte) : (s.setX v).cycles = s.cycles := rfl
@[simp] theorem setX_life (s : State) (v : Byte) : (s.setX v).life = s.life := rfl
@[simp] theorem setX_mem (s : State) (v : Byte) : (s.setX v).mem = s.mem := rfl

@[simp] theorem setY_a (s : State) (v : Byte) : (s.setY v).a = s.a := rfl
@[simp] theorem setY_x (s : State) (v : Byte) : (s.setY v).x = s.x := rfl
@[simp] theorem setY_y (s : State) (v : Byte) : (s.setY v).y = v := rfl
@[simp] theorem setY_sp (s : State) (v : Byte) : (s.setY v).sp = s.sp := rfl
@[simp] theorem setY_pc (s : State) (v : Byte) : (s.setY v).pc = s.pc := rfl
@[simp] theorem setY_p (s : State) (v : Byte) : (s.setY v).p = s.p := rfl
@[simp] theorem setY_cycles (s : State) (v : Byte) : (s.setY v).cycles = s.cycles := rfl
@[simp] theorem setY_life (s : State) (v : Byte) : (s.setY v).life = s.life := rfl
@[simp] theorem setY_mem (s : State) (v : Byte) : (s.setY v).mem = s.mem := rfl

@[simp] theorem setSp_a (s : State) (v : Byte) : (s.setSp v).a = s.a := rfl
@[simp] theorem setSp_x (s : State) (v : Byte) : (s.setSp v).x = s.x := rfl
@[simp] theorem setSp_y (s : State) (v : Byte) : (s.setSp v).y = s.y := rfl
@[simp] theorem setSp_sp (s : State) (v : Byte) : (s.setSp v).sp = v := rfl
@[simp] theorem setSp_pc (s : State) (v : Byte) : (s.setSp v).pc = s.pc := rfl
@[simp] theorem setSp_p (s : State) (v : Byte) : (s.setSp v).p = s.p := rfl
@[simp] theorem setSp_cycles (s : State) (v : Byte) : (s.setSp v).cycles = s.cycles := rfl
@[simp] theorem setSp_life (s : State) (v : Byte) : (s.setSp v).life = s.life := rfl
@[simp] theorem setSp_mem (s : State) (v : Byte) : (s.setSp v).mem = s.mem := rfl

@[simp] theorem setPc_a (s : State) (v : Word) : (s.setPc v).a = s.a := rfl
@[simp] theorem setPc_x (s : State) (v : Word) : (s.setPc v).x = s.x := rfl
@[simp] theorem setPc_y (s : State) (v : Word) : (s.setPc v).y = s.y := rfl
@[simp] theorem setPc_sp (s : State) (v : Word) : (s.setPc v).sp = s.sp := rfl
@[simp] theorem setPc_pc (s : State) (v : Word) : (s.setPc v).pc = v := rfl
@[simp] theorem setPc_p (s : State) (v : Word) : (s.setPc v).p = s.p := rfl
@[simp] theorem setPc_cycles (s : State) (v : Word) : (s.setPc v).cycles = s.cycles := rfl
@[simp] theorem setPc_life (s : State) (v : Word) : (s.setPc v).life = s.life := rfl
@[simp] theorem setPc_mem (s : State) (v : Word) : (s.setPc v).mem = s.mem := rfl

@[simp] theorem setP_a (s : State) (v : Status) : (s.setP v).a = s.a := rfl
@[simp] theorem setP_x (s : State) (v : Status) : (s.setP v).x = s.x := rfl
@[simp] theorem setP_y (s : State) (v : Status) : (s.setP v).y = s.y := rfl
@[simp] theorem setP_sp (s : State) (v : Status) : (s.setP v).sp = s.sp := rfl
@[simp] theorem setP_pc (s : State) (v : Status) : (s.setP v).pc = s.pc := rfl
@[simp] theorem setP_p (s : State) (v : Status) : (s.setP v).p = v := rfl
@[simp] theorem setP_cycles (s : State) (v : Status) : (s.setP v).cycles = s.cycles := rfl
@[simp] theorem setP_life (s : State) (v : Status) : (s.setP v).life = s.life := rfl
@[simp] theorem setP_mem (s : State) (v : Status) : (s.setP v).mem = s.mem := rfl

@[simp] theorem setLife_a (s : State) (v : Life) : (s.setLife v).a = s.a := rfl
@[simp] theorem setLife_x (s : State) (v : Life) : (s.setLife v).x = s.x := rfl
@[simp] theorem setLife_y (s : State) (v : Life) : (s.setLife v).y = s.y := rfl
@[simp] theorem setLife_sp (s : State) (v : Life) : (s.setLife v).sp = s.sp := rfl
@[simp] theorem setLife_pc (s : State) (v : Life) : (s.setLife v).pc = s.pc := rfl
@[simp] theorem setLife_p (s : State) (v : Life) : (s.setLife v).p = s.p := rfl
@[simp] theorem setLife_cycles (s : State) (v : Life) : (s.setLife v).cycles = s.cycles := rfl
@[simp] theorem setLife_life (s : State) (v : Life) : (s.setLife v).life = v := rfl
@[simp] theorem setLife_mem (s : State) (v : Life) : (s.setLife v).mem = s.mem := rfl

@[simp] theorem setMem_a (s : State) (v : Memory) : (s.setMem v).a = s.a := rfl
@[simp] theorem setMem_x (s : State) (v : Memory) : (s.setMem v).x = s.x := rfl
@[simp] theorem setMem_y (s : State) (v : Memory) : (s.setMem v).y = s.y := rfl
@[simp] theorem setMem_sp (s : State) (v : Memory) : (s.setMem v).sp = s.sp := rfl
@[simp] theorem setMem_pc (s : State) (v : Memory) : (s.setMem v).pc = s.pc := rfl
@[simp] theorem setMem_p (s : State) (v : Memory) : (s.setMem v).p = s.p := rfl
@[simp] theorem setMem_cycles (s : State) (v : Memory) : (s.setMem v).cycles = s.cycles := rfl
@[simp] theorem setMem_life (s : State) (v : Memory) : (s.setMem v).life = s.life := rfl
@[simp] theorem setMem_mem (s : State) (v : Memory) : (s.setMem v).mem = v := rfl

@[simp] theorem tick_a (s : State) (n : Nat) : (tick n s).a = s.a := rfl
@[simp] theorem tick_x (s : State) (n : Nat) : (tick n s).x = s.x := rfl
@[simp] theorem tick_y (s : State) (n : Nat) : (tick n s).y = s.y := rfl
@[simp] theorem tick_sp (s : State) (n : Nat) : (tick n s).sp = s.sp := rfl
@[simp] theorem tick_pc (s : State) (n : Nat) : (tick n s).pc = s.pc := rfl
@[simp] theorem tick_p (s : State) (n : Nat) : (tick n s).p = s.p := rfl
@[simp] theorem tick_cycles (s : State) (n : Nat) : (tick n s).cycles = s.cycles + n := rfl
@[simp] theorem tick_life (s : State) (n : Nat) : (tick n s).life = s.life := rfl
@[simp] theorem tick_mem (s : State) (n : Nat) : (tick n s).mem = s.mem := rfl

end Sys2Proof.Machine
end

