-- ==== Sys2Proof/Laws/Ops.lean ====
section
/-! SUPPORT. The fields each shared operation leaves, and what the derived operations do. -/

namespace Sys2Proof.Machine

@[simp] theorem writeByte_a (s : State) (addr : Word) (v : Byte) : (writeByte s addr v).a = s.a := rfl
@[simp] theorem writeByte_x (s : State) (addr : Word) (v : Byte) : (writeByte s addr v).x = s.x := rfl
@[simp] theorem writeByte_y (s : State) (addr : Word) (v : Byte) : (writeByte s addr v).y = s.y := rfl
@[simp] theorem writeByte_sp (s : State) (addr : Word) (v : Byte) : (writeByte s addr v).sp = s.sp := rfl
@[simp] theorem writeByte_pc (s : State) (addr : Word) (v : Byte) : (writeByte s addr v).pc = s.pc := rfl
@[simp] theorem writeByte_p (s : State) (addr : Word) (v : Byte) : (writeByte s addr v).p = s.p := rfl
@[simp] theorem writeByte_cycles (s : State) (addr : Word) (v : Byte) : (writeByte s addr v).cycles = s.cycles := rfl
@[simp] theorem writeByte_life (s : State) (addr : Word) (v : Byte) : (writeByte s addr v).life = s.life := rfl
@[simp] theorem writeByte_mem (s : State) (addr : Word) (v : Byte) : (writeByte s addr v).mem = memWrite s.mem addr.toNat v := rfl

@[simp] theorem push8_a (s : State) (v : Byte) : (push8 s v).a = s.a := rfl
@[simp] theorem push8_x (s : State) (v : Byte) : (push8 s v).x = s.x := rfl
@[simp] theorem push8_y (s : State) (v : Byte) : (push8 s v).y = s.y := rfl
@[simp] theorem push8_sp (s : State) (v : Byte) : (push8 s v).sp = s.sp - 1 := rfl
@[simp] theorem push8_pc (s : State) (v : Byte) : (push8 s v).pc = s.pc := rfl
@[simp] theorem push8_p (s : State) (v : Byte) : (push8 s v).p = s.p := rfl
@[simp] theorem push8_cycles (s : State) (v : Byte) : (push8 s v).cycles = s.cycles := rfl
@[simp] theorem push8_life (s : State) (v : Byte) : (push8 s v).life = s.life := rfl
@[simp] theorem push8_mem (s : State) (v : Byte) : (push8 s v).mem = memWrite s.mem (stackAddr s.sp).toNat v := rfl

@[simp] theorem pull8_a (s : State) : (pull8 s).a = s.a := rfl
@[simp] theorem pull8_x (s : State) : (pull8 s).x = s.x := rfl
@[simp] theorem pull8_y (s : State) : (pull8 s).y = s.y := rfl
@[simp] theorem pull8_sp (s : State) : (pull8 s).sp = s.sp + 1 := rfl
@[simp] theorem pull8_pc (s : State) : (pull8 s).pc = s.pc := rfl
@[simp] theorem pull8_p (s : State) : (pull8 s).p = s.p := rfl
@[simp] theorem pull8_cycles (s : State) : (pull8 s).cycles = s.cycles := rfl
@[simp] theorem pull8_life (s : State) : (pull8 s).life = s.life := rfl
@[simp] theorem pull8_mem (s : State) : (pull8 s).mem = s.mem := rfl

@[simp] theorem advancePc_a (n : Nat) (s : State) : (advancePc n s).a = s.a := rfl
@[simp] theorem advancePc_x (n : Nat) (s : State) : (advancePc n s).x = s.x := rfl
@[simp] theorem advancePc_y (n : Nat) (s : State) : (advancePc n s).y = s.y := rfl
@[simp] theorem advancePc_sp (n : Nat) (s : State) : (advancePc n s).sp = s.sp := rfl
@[simp] theorem advancePc_pc (n : Nat) (s : State) : (advancePc n s).pc = s.pc + BitVec.ofNat 16 n := rfl
@[simp] theorem advancePc_p (n : Nat) (s : State) : (advancePc n s).p = s.p := rfl
@[simp] theorem advancePc_cycles (n : Nat) (s : State) : (advancePc n s).cycles = s.cycles := rfl
@[simp] theorem advancePc_life (n : Nat) (s : State) : (advancePc n s).life = s.life := rfl
@[simp] theorem advancePc_mem (n : Nat) (s : State) : (advancePc n s).mem = s.mem := rfl

@[simp] theorem past_a (o : Operand) (s : State) : (past o s).a = s.a := rfl
@[simp] theorem past_x (o : Operand) (s : State) : (past o s).x = s.x := rfl
@[simp] theorem past_y (o : Operand) (s : State) : (past o s).y = s.y := rfl
@[simp] theorem past_sp (o : Operand) (s : State) : (past o s).sp = s.sp := rfl
@[simp] theorem past_pc (o : Operand) (s : State) : (past o s).pc = s.pc + BitVec.ofNat 16 o.mode.length := rfl
@[simp] theorem past_p (o : Operand) (s : State) : (past o s).p = s.p := rfl
@[simp] theorem past_cycles (o : Operand) (s : State) : (past o s).cycles = s.cycles := rfl
@[simp] theorem past_life (o : Operand) (s : State) : (past o s).life = s.life := rfl
@[simp] theorem past_mem (o : Operand) (s : State) : (past o s).mem = s.mem := rfl

@[simp] theorem retire_a (n : Nat) (s : State) : (retire n s).a = s.a := rfl
@[simp] theorem retire_x (n : Nat) (s : State) : (retire n s).x = s.x := rfl
@[simp] theorem retire_y (n : Nat) (s : State) : (retire n s).y = s.y := rfl
@[simp] theorem retire_sp (n : Nat) (s : State) : (retire n s).sp = s.sp := rfl
@[simp] theorem retire_pc (n : Nat) (s : State) : (retire n s).pc = s.pc := rfl
@[simp] theorem retire_p (n : Nat) (s : State) : (retire n s).p = s.p := rfl
@[simp] theorem retire_cycles (n : Nat) (s : State) : (retire n s).cycles = s.cycles + n := rfl
@[simp] theorem retire_life (n : Nat) (s : State) : (retire n s).life = .running := rfl
@[simp] theorem retire_mem (n : Nat) (s : State) : (retire n s).mem = s.mem := rfl

@[simp] theorem push16_a (s : State) (w : Word) : (push16 s w).a = s.a := rfl
@[simp] theorem push16_x (s : State) (w : Word) : (push16 s w).x = s.x := rfl
@[simp] theorem push16_y (s : State) (w : Word) : (push16 s w).y = s.y := rfl
@[simp] theorem push16_sp (s : State) (w : Word) : (push16 s w).sp = s.sp - 1 - 1 := rfl
@[simp] theorem push16_pc (s : State) (w : Word) : (push16 s w).pc = s.pc := rfl
@[simp] theorem push16_p (s : State) (w : Word) : (push16 s w).p = s.p := rfl
@[simp] theorem push16_cycles (s : State) (w : Word) : (push16 s w).cycles = s.cycles := rfl
@[simp] theorem push16_life (s : State) (w : Word) : (push16 s w).life = s.life := rfl
@[simp] theorem push16_mem (s : State) (w : Word) : (push16 s w).mem = memWrite (memWrite s.mem (stackAddr s.sp).toNat (hiByte w)) (stackAddr (s.sp - 1)).toNat (loByte w) := rfl

@[simp] theorem pull16_a (s : State) : (pull16 s).a = s.a := rfl
@[simp] theorem pull16_x (s : State) : (pull16 s).x = s.x := rfl
@[simp] theorem pull16_y (s : State) : (pull16 s).y = s.y := rfl
@[simp] theorem pull16_sp (s : State) : (pull16 s).sp = s.sp + 1 + 1 := rfl
@[simp] theorem pull16_pc (s : State) : (pull16 s).pc = s.pc := rfl
@[simp] theorem pull16_p (s : State) : (pull16 s).p = s.p := rfl
@[simp] theorem pull16_cycles (s : State) : (pull16 s).cycles = s.cycles := rfl
@[simp] theorem pull16_life (s : State) : (pull16 s).life = s.life := rfl
@[simp] theorem pull16_mem (s : State) : (pull16 s).mem = s.mem := rfl

@[simp] theorem interruptEntry_a (vector : Word) (b : Bool) (s : State) : (interruptEntry vector b s).a = s.a := by simp [interruptEntry]
@[simp] theorem interruptEntry_x (vector : Word) (b : Bool) (s : State) : (interruptEntry vector b s).x = s.x := by simp [interruptEntry]
@[simp] theorem interruptEntry_y (vector : Word) (b : Bool) (s : State) : (interruptEntry vector b s).y = s.y := by simp [interruptEntry]
@[simp] theorem interruptEntry_sp (vector : Word) (b : Bool) (s : State) : (interruptEntry vector b s).sp = s.sp - 1 - 1 - 1 := by simp [interruptEntry]
@[simp] theorem interruptEntry_p (vector : Word) (b : Bool) (s : State) : (interruptEntry vector b s).p = { s.p with i := true } := by simp [interruptEntry]
@[simp] theorem interruptEntry_cycles (vector : Word) (b : Bool) (s : State) : (interruptEntry vector b s).cycles = s.cycles := by simp [interruptEntry]
@[simp] theorem interruptEntry_life (vector : Word) (b : Bool) (s : State) : (interruptEntry vector b s).life = s.life := by simp [interruptEntry]
@[simp] theorem interruptEntry_mem (vector : Word) (b : Bool) (s : State) : (interruptEntry vector b s).mem = (push8 (push16 s s.pc) (pByte s.p b)).mem := by simp [interruptEntry]

@[simp] theorem interruptReturn_a (s : State) : (interruptReturn s).a = s.a := by simp [interruptReturn, pulled16, pulled8, readByte]
@[simp] theorem interruptReturn_x (s : State) : (interruptReturn s).x = s.x := by simp [interruptReturn, pulled16, pulled8, readByte]
@[simp] theorem interruptReturn_y (s : State) : (interruptReturn s).y = s.y := by simp [interruptReturn, pulled16, pulled8, readByte]
@[simp] theorem interruptReturn_sp (s : State) : (interruptReturn s).sp = s.sp + 1 + 1 + 1 := by simp [interruptReturn, pulled16, pulled8, readByte]
@[simp] theorem interruptReturn_pc (s : State) : (interruptReturn s).pc = pulled16 (pull8 s) := by simp [interruptReturn, pulled16, pulled8, readByte]
@[simp] theorem interruptReturn_p (s : State) : (interruptReturn s).p = pLoad s.p (pulled8 s) := by simp [interruptReturn, pulled16, pulled8, readByte]
@[simp] theorem interruptReturn_cycles (s : State) : (interruptReturn s).cycles = s.cycles := by simp [interruptReturn, pulled16, pulled8, readByte]
@[simp] theorem interruptReturn_life (s : State) : (interruptReturn s).life = s.life := by simp [interruptReturn, pulled16, pulled8, readByte]
@[simp] theorem interruptReturn_mem (s : State) : (interruptReturn s).mem = s.mem := by simp [interruptReturn, pulled16, pulled8, readByte]

@[simp] theorem faultState_a (p : Params) (r : Fault) (s : State) : (faultState p r s).a = s.a := rfl
@[simp] theorem faultState_x (p : Params) (r : Fault) (s : State) : (faultState p r s).x = s.x := rfl
@[simp] theorem faultState_y (p : Params) (r : Fault) (s : State) : (faultState p r s).y = s.y := rfl
@[simp] theorem faultState_sp (p : Params) (r : Fault) (s : State) : (faultState p r s).sp = s.sp := rfl
@[simp] theorem faultState_pc (p : Params) (r : Fault) (s : State) : (faultState p r s).pc = s.pc + BitVec.ofNat 16 (bytesReadAtFault p r s) := rfl
@[simp] theorem faultState_p (p : Params) (r : Fault) (s : State) : (faultState p r s).p = s.p := rfl
@[simp] theorem faultState_cycles (p : Params) (r : Fault) (s : State) : (faultState p r s).cycles = s.cycles + bytesReadAtFault p r s := rfl
@[simp] theorem faultState_life (p : Params) (r : Fault) (s : State) : (faultState p r s).life = .faulted := rfl
@[simp] theorem faultState_mem (p : Params) (r : Fault) (s : State) : (faultState p r s).mem = s.mem := rfl

end Sys2Proof.Machine
end

