-- ==== Sys2Proof/Laws/Variant.lean ====
section
/-! SUPPORT. The machine as a function of its parameters: what each parameter can change, and that the machine of
`exec` and `step` is the one with the default parameters. -/

namespace Sys2Proof.Machine

/-- `exec` is `execIn` with the default parameters. -/
theorem execIn_standard (i : Instr) (s : State) : execIn Params.standard i s = exec i s := by
  cases i <;> rfl

/-- Only ADC, SBC and JMP (indirect) use a parameter. -/
theorem execIn_of_ne {i : Instr} (p : Params) (s : State) (h : i.mnemonic ≠ .adc ∧ i.mnemonic ≠ .sbc)
    (hj : i.operand.mode ≠ .ind) : execIn p i s = exec i s := by
  cases i <;> first | rfl | exact absurd rfl h.1 | exact absurd rfl h.2 | exact absurd rfl hj

/-- The entry registered last is found first. -/
theorem extLookup_append (es : List ExtEntry) (e : ExtEntry) (b : Byte) :
    extLookup (es ++ [e]) b = if e.opcode = b then some e else extLookup es b := by
  induction es with
  | nil => simp [extLookup]
  | cons f fs ih =>
    by_cases h : e.opcode = b <;> simp [extLookup, ih, h]

/-- In Ready and Running an extension entry for the opcode byte at `PC` runs. -/
theorem stepIn_ext {p : Params} {s : State} {e : ExtEntry} (h : s.life = .ready ∨ s.life = .running)
    (he : extLookup p.extTable (opcodeAt s) = some e) : stepIn p s = runEntry p e s := by
  rcases h with h | h <;> simp only [stepIn, h, he]

/-- In Ready and Running an opcode byte without an extension entry selects its row of the base table. -/
theorem stepIn_base {p : Params} {s : State} (h : s.life = .ready ∨ s.life = .running)
    (he : extLookup p.extTable (opcodeAt s) = none) :
    stepIn p s = match fetchInstr s with
      | .ok i => execIn p i s
      | .error e => .fault (decodeFault e s) := by
  rcases h with h | h <;> simp only [stepIn, h, he] <;> rfl

/-- `step` in terms of `exec`. -/
theorem step_eq (s : State) :
    step s = match s.life with
      | .uninitialized => .refused .uninitialized
      | .faulted => .refused .faulted
      | .ready | .running =>
        match fetchInstr s with
        | .ok i => exec i s
        | .error e => .fault (decodeFault e s) := by
  have he : extLookup Params.standard.extTable (opcodeAt s) = none := rfl
  simp only [step, stepIn, he, execIn_standard] <;> rfl

end Sys2Proof.Machine
end

