-- ==== Sys2Proof/Laws/Shapes.lean ====
section
/-! SUPPORT. One lemma per shared shape: what it answers, once and for all; and the inversion of `step`. -/

namespace Sys2Proof.Machine

theorem readShape_next {o : Operand} {cycles : Nat} {pen : Penalty} {f : Byte → State → State} {s t : State}
    (h : readShape o cycles pen f s = .next t) :
    ∃ m, value (resolve o (past o s)) (past o s) = .ok m ∧
      t = retire (charge cycles pen (resolve o (past o s)) false) (f m (past o s)) := by
  simp only [readShape] at h
  split at h
  · rename_i m hm
    exact ⟨m, hm, (Host.Outcome.next.inj h).symm⟩
  · cases h

theorem readShape_of_value {o : Operand} {cycles : Nat} {pen : Penalty} {f : Byte → State → State} {s : State} {m : Byte}
    (h : value (resolve o (past o s)) (past o s) = .ok m) :
    readShape o cycles pen f s = .next (retire (charge cycles pen (resolve o (past o s)) false) (f m (past o s))) := by
  simp only [readShape, h]

theorem writeShape_next {o : Operand} {cycles : Nat} {reg : State → Byte} {s t : State}
    (h : writeShape o cycles reg s = .next t) :
    ∃ ea, addr (resolve o (past o s)) = .ok ea ∧
      t = retire (charge cycles .none (resolve o (past o s)) false) (writeByte (past o s) ea (reg (past o s))) := by
  simp only [writeShape] at h
  split at h
  · rename_i ea hea
    exact ⟨ea, hea, (Host.Outcome.next.inj h).symm⟩
  · cases h

theorem writeShape_of_addr {o : Operand} {cycles : Nat} {reg : State → Byte} {s : State} {ea : Word}
    (h : addr (resolve o (past o s)) = .ok ea) :
    writeShape o cycles reg s = .next
      (retire (charge cycles .none (resolve o (past o s)) false) (writeByte (past o s) ea (reg (past o s)))) := by
  simp only [writeShape, h]

theorem rmwShape_next {o : Operand} {cycles : Nat} {f : Byte → Status → Byte × Status} {s t : State}
    (h : rmwShape o cycles f s = .next t) :
    ∃ ea, addr (resolve o (past o s)) = .ok ea ∧
      t = retire (charge cycles .none (resolve o (past o s)) false)
        ((writeByte (past o s) ea (f (readByte (past o s) ea) s.p).1).setP (f (readByte (past o s) ea) s.p).2) := by
  simp only [rmwShape] at h
  split at h
  · rename_i ea hea
    exact ⟨ea, hea, (Host.Outcome.next.inj h).symm⟩
  · cases h

theorem rmwShape_of_addr {o : Operand} {cycles : Nat} {f : Byte → Status → Byte × Status} {s : State} {ea : Word}
    (h : addr (resolve o (past o s)) = .ok ea) :
    rmwShape o cycles f s = .next (retire (charge cycles .none (resolve o (past o s)) false)
      ((writeByte (past o s) ea (f (readByte (past o s) ea) s.p).1).setP (f (readByte (past o s) ea) s.p).2)) := by
  simp only [rmwShape, h, past_p]

theorem jumpShape_next {o : Operand} {cycles : Nat} {f : Word → State → State} {s t : State}
    (h : jumpShape o cycles f s = .next t) :
    ∃ target, addr (resolve o (past o s)) = .ok target ∧
      t = retire (charge cycles .none (resolve o (past o s)) false) (f target (past o s)) := by
  simp only [jumpShape, jumpShapeIn] at h
  split at h
  · rename_i w hw
    exact ⟨w, hw, (Host.Outcome.next.inj h).symm⟩
  · cases h

/-- A branch completes: `PC` goes to the target or stays at the following instruction. -/
theorem branchShape_eq (o : Byte) (cycles : Nat) (cond : Status → Bool) (s : State) :
    branchShape o cycles cond s = .next
      (retire (charge cycles .branch (resolve (.rel o) (past (.rel o) s)) (cond s.p))
        (if cond s.p then (past (.rel o) s).setPc ((past (.rel o) s).pc + sext16 o) else past (.rel o) s)) := rfl

theorem impliedShape_eq (cycles : Nat) (f : State → State) (s : State) :
    impliedShape cycles f s = .next (retire cycles (f (past .imp s))) := rfl

theorem accShape_eq (cycles : Nat) (f : Byte → Status → Byte × Status) (s : State) :
    accShape cycles f s = .next (retire cycles (((past .acc s).setA (f s.a s.p).1).setP (f s.a s.p).2)) := rfl

/-- What a completed `step` has done: it was Ready or Running, decoded an instruction, and ran it. -/
theorem step_next {s t : State} (h : step s = .next t) :
    (s.life = .ready ∨ s.life = .running) ∧ ∃ i, fetchInstr s = .ok i ∧ exec i s = .next t := by
  rw [step_eq] at h
  split at h
  · cases h
  · cases h
  · split at h
    · exact ⟨.inl ‹_›, _, ‹_›, h⟩
    · cases h
  · split at h
    · exact ⟨.inr ‹_›, _, ‹_›, h⟩
    · cases h

theorem readByte_writeByte (s : State) (a b : Word) (v : Byte) :
    readByte (writeByte s a v) b = if b = a then v else readByte s b := by
  simp only [readByte, writeByte_mem, memRead_memWrite, BitVec.toNat_inj]

theorem writeByte_mem_wf {s : State} (h : Memory.wf s.mem = true) (a : Word) (v : Byte) :
    Memory.wf (writeByte s a v).mem = true :=
  memWrite_wf h _ a.isLt v

theorem push8_mem_wf {s : State} (h : Memory.wf s.mem = true) (v : Byte) : Memory.wf (push8 s v).mem = true :=
  writeByte_mem_wf h _ v

theorem push16_mem_wf {s : State} (h : Memory.wf s.mem = true) (w : Word) : Memory.wf (push16 s w).mem = true :=
  push8_mem_wf (push8_mem_wf h _) _

theorem interruptEntry_mem_wf {s : State} (h : Memory.wf s.mem = true) (vector : Word) (b : Bool) :
    Memory.wf (interruptEntry vector b s).mem = true := by
  rw [interruptEntry_mem]
  exact push8_mem_wf (push16_mem_wf h _) _

end Sys2Proof.Machine
end

