-- ==== Sys2Proof/Laws/Table.lean ====
section
/-! SUPPORT. The row of the opcode table that each instruction's opcode byte selects, evaluated once. -/

namespace Sys2Proof.Laws

/-- The row of the base table for an instruction. -/
def tableRow : Instr → Row
  | .ldaImm _ => ⟨0xA9, .lda, .imm, 2, .none⟩
  | .ldaZp _ => ⟨0xA5, .lda, .zp, 3, .none⟩
  | .ldaZpx _ => ⟨0xB5, .lda, .zpx, 4, .none⟩
  | .ldaAbs _ => ⟨0xAD, .lda, .abs, 4, .none⟩
  | .ldaAbx _ => ⟨0xBD, .lda, .abx, 4, .pageCross⟩
  | .ldaAby _ => ⟨0xB9, .lda, .aby, 4, .pageCross⟩
  | .ldaIzx _ => ⟨0xA1, .lda, .izx, 6, .none⟩
  | .ldaIzy _ => ⟨0xB1, .lda, .izy, 5, .pageCross⟩
  | .ldxImm _ => ⟨0xA2, .ldx, .imm, 2, .none⟩
  | .ldxZp _ => ⟨0xA6, .ldx, .zp, 3, .none⟩
  | .ldxZpy _ => ⟨0xB6, .ldx, .zpy, 4, .none⟩
  | .ldxAbs _ => ⟨0xAE, .ldx, .abs, 4, .none⟩
  | .ldxAby _ => ⟨0xBE, .ldx, .aby, 4, .pageCross⟩
  | .ldyImm _ => ⟨0xA0, .ldy, .imm, 2, .none⟩
  | .ldyZp _ => ⟨0xA4, .ldy, .zp, 3, .none⟩
  | .ldyZpx _ => ⟨0xB4, .ldy, .zpx, 4, .none⟩
  | .ldyAbs _ => ⟨0xAC, .ldy, .abs, 4, .none⟩
  | .ldyAbx _ => ⟨0xBC, .ldy, .abx, 4, .pageCross⟩
  | .staZp _ => ⟨0x85, .sta, .zp, 3, .none⟩
  | .staZpx _ => ⟨0x95, .sta, .zpx, 4, .none⟩
  | .staAbs _ => ⟨0x8D, .sta, .abs, 4, .none⟩
  | .staAbx _ => ⟨0x9D, .sta, .abx, 5, .none⟩
  | .staAby _ => ⟨0x99, .sta, .aby, 5, .none⟩
  | .staIzx _ => ⟨0x81, .sta, .izx, 6, .none⟩
  | .staIzy _ => ⟨0x91, .sta, .izy, 6, .none⟩
  | .stxZp _ => ⟨0x86, .stx, .zp, 3, .none⟩
  | .stxZpy _ => ⟨0x96, .stx, .zpy, 4, .none⟩
  | .stxAbs _ => ⟨0x8E, .stx, .abs, 4, .none⟩
  | .styZp _ => ⟨0x84, .sty, .zp, 3, .none⟩
  | .styZpx _ => ⟨0x94, .sty, .zpx, 4, .none⟩
  | .styAbs _ => ⟨0x8C, .sty, .abs, 4, .none⟩
  | .tax => ⟨0xAA, .tax, .imp, 2, .none⟩
  | .tay => ⟨0xA8, .tay, .imp, 2, .none⟩
  | .txa => ⟨0x8A, .txa, .imp, 2, .none⟩
  | .tya => ⟨0x98, .tya, .imp, 2, .none⟩
  | .tsx => ⟨0xBA, .tsx, .imp, 2, .none⟩
  | .txs => ⟨0x9A, .txs, .imp, 2, .none⟩
  | .pha => ⟨0x48, .pha, .imp, 3, .none⟩
  | .php => ⟨0x08, .php, .imp, 3, .none⟩
  | .pla => ⟨0x68, .pla, .imp, 4, .none⟩
  | .plp => ⟨0x28, .plp, .imp, 4, .none⟩
  | .andImm _ => ⟨0x29, .and, .imm, 2, .none⟩
  | .andZp _ => ⟨0x25, .and, .zp, 3, .none⟩
  | .andZpx _ => ⟨0x35, .and, .zpx, 4, .none⟩
  | .andAbs _ => ⟨0x2D, .and, .abs, 4, .none⟩
  | .andAbx _ => ⟨0x3D, .and, .abx, 4, .pageCross⟩
  | .andAby _ => ⟨0x39, .and, .aby, 4, .pageCross⟩
  | .andIzx _ => ⟨0x21, .and, .izx, 6, .none⟩
  | .andIzy _ => ⟨0x31, .and, .izy, 5, .pageCross⟩
  | .oraImm _ => ⟨0x09, .ora, .imm, 2, .none⟩
  | .oraZp _ => ⟨0x05, .ora, .zp, 3, .none⟩
  | .oraZpx _ => ⟨0x15, .ora, .zpx, 4, .none⟩
  | .oraAbs _ => ⟨0x0D, .ora, .abs, 4, .none⟩
  | .oraAbx _ => ⟨0x1D, .ora, .abx, 4, .pageCross⟩
  | .oraAby _ => ⟨0x19, .ora, .aby, 4, .pageCross⟩
  | .oraIzx _ => ⟨0x01, .ora, .izx, 6, .none⟩
  | .oraIzy _ => ⟨0x11, .ora, .izy, 5, .pageCross⟩
  | .eorImm _ => ⟨0x49, .eor, .imm, 2, .none⟩
  | .eorZp _ => ⟨0x45, .eor, .zp, 3, .none⟩
  | .eorZpx _ => ⟨0x55, .eor, .zpx, 4, .none⟩
  | .eorAbs _ => ⟨0x4D, .eor, .abs, 4, .none⟩
  | .eorAbx _ => ⟨0x5D, .eor, .abx, 4, .pageCross⟩
  | .eorAby _ => ⟨0x59, .eor, .aby, 4, .pageCross⟩
  | .eorIzx _ => ⟨0x41, .eor, .izx, 6, .none⟩
  | .eorIzy _ => ⟨0x51, .eor, .izy, 5, .pageCross⟩
  | .bitZp _ => ⟨0x24, .bit, .zp, 3, .none⟩
  | .bitAbs _ => ⟨0x2C, .bit, .abs, 4, .none⟩
  | .adcImm _ => ⟨0x69, .adc, .imm, 2, .none⟩
  | .adcZp _ => ⟨0x65, .adc, .zp, 3, .none⟩
  | .adcZpx _ => ⟨0x75, .adc, .zpx, 4, .none⟩
  | .adcAbs _ => ⟨0x6D, .adc, .abs, 4, .none⟩
  | .adcAbx _ => ⟨0x7D, .adc, .abx, 4, .pageCross⟩
  | .adcAby _ => ⟨0x79, .adc, .aby, 4, .pageCross⟩
  | .adcIzx _ => ⟨0x61, .adc, .izx, 6, .none⟩
  | .adcIzy _ => ⟨0x71, .adc, .izy, 5, .pageCross⟩
  | .sbcImm _ => ⟨0xE9, .sbc, .imm, 2, .none⟩
  | .sbcZp _ => ⟨0xE5, .sbc, .zp, 3, .none⟩
  | .sbcZpx _ => ⟨0xF5, .sbc, .zpx, 4, .none⟩
  | .sbcAbs _ => ⟨0xED, .sbc, .abs, 4, .none⟩
  | .sbcAbx _ => ⟨0xFD, .sbc, .abx, 4, .pageCross⟩
  | .sbcAby _ => ⟨0xF9, .sbc, .aby, 4, .pageCross⟩
  | .sbcIzx _ => ⟨0xE1, .sbc, .izx, 6, .none⟩
  | .sbcIzy _ => ⟨0xF1, .sbc, .izy, 5, .pageCross⟩
  | .cmpImm _ => ⟨0xC9, .cmp, .imm, 2, .none⟩
  | .cmpZp _ => ⟨0xC5, .cmp, .zp, 3, .none⟩
  | .cmpZpx _ => ⟨0xD5, .cmp, .zpx, 4, .none⟩
  | .cmpAbs _ => ⟨0xCD, .cmp, .abs, 4, .none⟩
  | .cmpAbx _ => ⟨0xDD, .cmp, .abx, 4, .pageCross⟩
  | .cmpAby _ => ⟨0xD9, .cmp, .aby, 4, .pageCross⟩
  | .cmpIzx _ => ⟨0xC1, .cmp, .izx, 6, .none⟩
  | .cmpIzy _ => ⟨0xD1, .cmp, .izy, 5, .pageCross⟩
  | .cpxImm _ => ⟨0xE0, .cpx, .imm, 2, .none⟩
  | .cpxZp _ => ⟨0xE4, .cpx, .zp, 3, .none⟩
  | .cpxAbs _ => ⟨0xEC, .cpx, .abs, 4, .none⟩
  | .cpyImm _ => ⟨0xC0, .cpy, .imm, 2, .none⟩
  | .cpyZp _ => ⟨0xC4, .cpy, .zp, 3, .none⟩
  | .cpyAbs _ => ⟨0xCC, .cpy, .abs, 4, .none⟩
  | .incZp _ => ⟨0xE6, .inc, .zp, 5, .none⟩
  | .incZpx _ => ⟨0xF6, .inc, .zpx, 6, .none⟩
  | .incAbs _ => ⟨0xEE, .inc, .abs, 6, .none⟩
  | .incAbx _ => ⟨0xFE, .inc, .abx, 7, .none⟩
  | .decZp _ => ⟨0xC6, .dec, .zp, 5, .none⟩
  | .decZpx _ => ⟨0xD6, .dec, .zpx, 6, .none⟩
  | .decAbs _ => ⟨0xCE, .dec, .abs, 6, .none⟩
  | .decAbx _ => ⟨0xDE, .dec, .abx, 7, .none⟩
  | .inx => ⟨0xE8, .inx, .imp, 2, .none⟩
  | .iny => ⟨0xC8, .iny, .imp, 2, .none⟩
  | .dex => ⟨0xCA, .dex, .imp, 2, .none⟩
  | .dey => ⟨0x88, .dey, .imp, 2, .none⟩
  | .aslAcc => ⟨0x0A, .asl, .acc, 2, .none⟩
  | .aslZp _ => ⟨0x06, .asl, .zp, 5, .none⟩
  | .aslZpx _ => ⟨0x16, .asl, .zpx, 6, .none⟩
  | .aslAbs _ => ⟨0x0E, .asl, .abs, 6, .none⟩
  | .aslAbx _ => ⟨0x1E, .asl, .abx, 7, .none⟩
  | .lsrAcc => ⟨0x4A, .lsr, .acc, 2, .none⟩
  | .lsrZp _ => ⟨0x46, .lsr, .zp, 5, .none⟩
  | .lsrZpx _ => ⟨0x56, .lsr, .zpx, 6, .none⟩
  | .lsrAbs _ => ⟨0x4E, .lsr, .abs, 6, .none⟩
  | .lsrAbx _ => ⟨0x5E, .lsr, .abx, 7, .none⟩
  | .rolAcc => ⟨0x2A, .rol, .acc, 2, .none⟩
  | .rolZp _ => ⟨0x26, .rol, .zp, 5, .none⟩
  | .rolZpx _ => ⟨0x36, .rol, .zpx, 6, .none⟩
  | .rolAbs _ => ⟨0x2E, .rol, .abs, 6, .none⟩
  | .rolAbx _ => ⟨0x3E, .rol, .abx, 7, .none⟩
  | .rorAcc => ⟨0x6A, .ror, .acc, 2, .none⟩
  | .rorZp _ => ⟨0x66, .ror, .zp, 5, .none⟩
  | .rorZpx _ => ⟨0x76, .ror, .zpx, 6, .none⟩
  | .rorAbs _ => ⟨0x6E, .ror, .abs, 6, .none⟩
  | .rorAbx _ => ⟨0x7E, .ror, .abx, 7, .none⟩
  | .jmpAbs _ => ⟨0x4C, .jmp, .abs, 3, .none⟩
  | .jmpInd _ => ⟨0x6C, .jmp, .ind, 5, .none⟩
  | .jsr _ => ⟨0x20, .jsr, .abs, 6, .none⟩
  | .rts => ⟨0x60, .rts, .imp, 6, .none⟩
  | .bcc _ => ⟨0x90, .bcc, .rel, 2, .branch⟩
  | .bcs _ => ⟨0xB0, .bcs, .rel, 2, .branch⟩
  | .beq _ => ⟨0xF0, .beq, .rel, 2, .branch⟩
  | .bne _ => ⟨0xD0, .bne, .rel, 2, .branch⟩
  | .bmi _ => ⟨0x30, .bmi, .rel, 2, .branch⟩
  | .bpl _ => ⟨0x10, .bpl, .rel, 2, .branch⟩
  | .bvc _ => ⟨0x50, .bvc, .rel, 2, .branch⟩
  | .bvs _ => ⟨0x70, .bvs, .rel, 2, .branch⟩
  | .clc => ⟨0x18, .clc, .imp, 2, .none⟩
  | .sec => ⟨0x38, .sec, .imp, 2, .none⟩
  | .cli => ⟨0x58, .cli, .imp, 2, .none⟩
  | .sei => ⟨0x78, .sei, .imp, 2, .none⟩
  | .cld => ⟨0xD8, .cld, .imp, 2, .none⟩
  | .sed => ⟨0xF8, .sed, .imp, 2, .none⟩
  | .clv => ⟨0xB8, .clv, .imp, 2, .none⟩
  | .nop => ⟨0xEA, .nop, .imp, 2, .none⟩
  | .brk => ⟨0x00, .brk, .imp, 7, .none⟩
  | .rti => ⟨0x40, .rti, .imp, 6, .none⟩

/-- Looking up an instruction's opcode byte finds its row. -/
theorem lookup_base (i : Instr) : lookup base6502 i.opcode = some (tableRow i) := by
  cases i <;> (dsimp only [Instr.opcode, tableRow]; decide +kernel)

end Sys2Proof.Laws
end

