-- ==== Sys2Proof/Laws/Exec.lean ====
section
/-! SUPPORT. What `exec` does, said once: every instruction runs one of seven shapes on its operand, with the
cycles and penalty of its row of the opcode table. -/

namespace Sys2Proof.Laws

open Machine

/-- The shape of an instruction with its effect. -/
inductive Kind where
  | read (f : Byte → State → State)
  | write (reg : State → Byte)
  | rmw (f : Byte → Status → Byte × Status)
  | acc (f : Byte → Status → Byte × Status)
  | implied (f : State → State)
  | jump (f : Word → State → State)
  | branch (cond : Status → Bool)

/-- A shift or rotate works on `A` in its accumulator form and on memory otherwise. -/
def shiftKind (o : Operand) (f : Byte → Bool → Byte × Bool) : Kind :=
  if o = .acc then .acc (shiftByte f) else .rmw (shiftByte f)

/-- The shape and effect of a mnemonic on an operand. -/
def kindOf (m : Mnemonic) (o : Operand) : Kind :=
  match m with
  | .lda => .read ldaEffect
  | .ldx => .read ldxEffect
  | .ldy => .read ldyEffect
  | .sta => .write State.a
  | .stx => .write State.x
  | .sty => .write State.y
  | .tax => .implied fun t => (t.setX t.a).setP (setNZ t.p t.a)
  | .tay => .implied fun t => (t.setY t.a).setP (setNZ t.p t.a)
  | .txa => .implied fun t => (t.setA t.x).setP (setNZ t.p t.x)
  | .tya => .implied fun t => (t.setA t.y).setP (setNZ t.p t.y)
  | .tsx => .implied fun t => (t.setX t.sp).setP (setNZ t.p t.sp)
  | .txs => .implied fun t => t.setSp t.x
  | .pha => .implied fun t => push8 t t.a
  | .php => .implied fun t => push8 t (pByte t.p true)
  | .pla => .implied fun t => ((pull8 t).setA (pulled8 t)).setP (setNZ t.p (pulled8 t))
  | .plp => .implied fun t => (pull8 t).setP (pLoad t.p (pulled8 t))
  | .and => .read (logicEffect fun a m => a &&& m)
  | .ora => .read (logicEffect fun a m => a ||| m)
  | .eor => .read (logicEffect fun a m => a ^^^ m)
  | .bit => .read bitEffect
  | .adc => .read (arithEffect adc)
  | .sbc => .read (arithEffect sbc)
  | .cmp => .read (compareEffect State.a)
  | .cpx => .read (compareEffect State.x)
  | .cpy => .read (compareEffect State.y)
  | .inc => .rmw incByte
  | .dec => .rmw decByte
  | .inx => .implied fun t => (t.setX (t.x + 1)).setP (setNZ t.p (t.x + 1))
  | .iny => .implied fun t => (t.setY (t.y + 1)).setP (setNZ t.p (t.y + 1))
  | .dex => .implied fun t => (t.setX (t.x - 1)).setP (setNZ t.p (t.x - 1))
  | .dey => .implied fun t => (t.setY (t.y - 1)).setP (setNZ t.p (t.y - 1))
  | .asl => shiftKind o asl
  | .lsr => shiftKind o lsr
  | .rol => shiftKind o rol
  | .ror => shiftKind o ror
  | .jmp => .jump fun target t => t.setPc target
  | .jsr => .jump fun target t => (push16 t (t.pc - 1)).setPc target
  | .rts => .implied fun t => (pull16 t).setPc (pulled16 t + 1)
  | .bcc => .branch fun p => !p.c
  | .bcs => .branch fun p => p.c
  | .beq => .branch fun p => p.z
  | .bne => .branch fun p => !p.z
  | .bmi => .branch fun p => p.n
  | .bpl => .branch fun p => !p.n
  | .bvc => .branch fun p => !p.v
  | .bvs => .branch fun p => p.v
  | .clc => .implied fun t => t.setP { t.p with c := false }
  | .sec => .implied fun t => t.setP { t.p with c := true }
  | .cli => .implied fun t => t.setP { t.p with i := false }
  | .sei => .implied fun t => t.setP { t.p with i := true }
  | .cld => .implied fun t => t.setP { t.p with d := false }
  | .sed => .implied fun t => t.setP { t.p with d := true }
  | .clv => .implied fun t => t.setP { t.p with v := false }
  | .nop => .implied fun t => t
  | .brk => .implied fun t => interruptEntry irqVector true (advancePc 1 t)
  | .rti => .implied interruptReturn

/-- Whether an operand fits a shape: a value to read, an address, a branch target. -/
def Kind.fits (k : Kind) (o : Operand) : Bool :=
  match k with
  | .read _ => o.mode ∈ [.imm, .zp, .zpx, .zpy, .abs, .abx, .aby, .izx, .izy]
  | .write _ | .rmw _ => o.mode ∈ [.zp, .zpx, .zpy, .abs, .abx, .aby, .izx, .izy]
  | .acc _ => o.mode = .acc
  | .implied _ => o.mode = .imp
  | .jump _ => o.mode ∈ [.abs, .ind]
  | .branch _ => o.mode = .rel

/-- The operand of every instruction fits the shape of its mnemonic. -/
theorem kindOf_fits (i : Instr) : (kindOf i.mnemonic i.operand).fits i.operand = true := by
  cases i <;> rfl

/-- A write, read-modify-write, jump, register or stack instruction pays no page-cross penalty; only branches
have the branch rule. -/
theorem penalty_of_kind (i : Instr) :
    (tableRow i).penalty = match kindOf i.mnemonic i.operand with
      | .read _ => (tableRow i).penalty
      | .branch _ => .branch
      | .write _ | .rmw _ | .acc _ | .implied _ | .jump _ => .none := by
  cases i <;> rfl

/-- Whether a shape is that of a branch. -/
def Kind.isBranch (k : Kind) : Bool :=
  match k with
  | .branch _ => true
  | .read _ | .write _ | .rmw _ | .acc _ | .implied _ | .jump _ => false

theorem branch_iff_kind (i : Instr) :
    decide ((tableRow i).penalty = .branch) = (kindOf i.mnemonic i.operand).isBranch := by
  cases i <;> rfl

/-- Only a branch has the branch rule. -/
theorem penalty_read {i : Instr} {f : Byte → State → State} (h : kindOf i.mnemonic i.operand = .read f) :
    (tableRow i).penalty ≠ .branch := by
  intro hb
  have hk := branch_iff_kind i
  rw [h, hb] at hk
  cases hk

/-- One state after the shape has run, given what the operand resolves to. -/
def Kind.after (k : Kind) (i : Instr) (s : State) : State :=
  let s1 := past i.operand s
  let op := resolve i.operand s1
  match k with
  | .read f => retire (charge (tableRow i).cycles (tableRow i).penalty op false) (f ((value op s1).toOption.getD 0) s1)
  | .write reg => retire (tableRow i).cycles (writeByte s1 ((addr op).toOption.getD 0) (reg s1))
  | .rmw f =>
    let out := f (readByte s1 ((addr op).toOption.getD 0)) s1.p
    retire (tableRow i).cycles ((writeByte s1 ((addr op).toOption.getD 0) out.1).setP out.2)
  | .acc f => retire (tableRow i).cycles ((s1.setA (f s1.a s1.p).1).setP (f s1.a s1.p).2)
  | .implied f => retire (tableRow i).cycles (f s1)
  | .jump f => retire (tableRow i).cycles (f ((addr op).toOption.getD 0) s1)
  | .branch cond =>
    retire (charge (tableRow i).cycles .branch op (cond s1.p))
      (if cond s1.p then s1.setPc (match op with | .rel target _ => target | _ => 0) else s1)

/-- What every instruction does, in one equation. -/
theorem exec_eq (i : Instr) (s : State) : exec i s = .next ((kindOf i.mnemonic i.operand).after i s) := by
  cases i <;> rfl

end Sys2Proof.Laws
end

