-- ==== Sys2Proof/Laws/PerInstr.lean ====
section
/-! SUPPORT. Statements made for every instruction, one lemma per constructor. `Shape` is about an instruction
as syntax: its mnemonic accepts its mode, its two parts make it again, and its encoding has the length the
format table gives the mode (30_encoding.md R61). -/

namespace Sys2Proof.Laws

/-- The mnemonic accepts the operand's mode, mnemonic and operand give the instruction back, and the encoding
is as long as the mode says. -/
def Shape.Statement (i : Instr) : Prop :=
  i.wellFormed = true ∧ Instr.ofParts i.mnemonic i.operand = some i ∧ (encode i).length = i.length

theorem Shape.ldaImm (v : Byte) : Shape.Statement (.ldaImm v) := ⟨rfl, rfl, rfl⟩
theorem Shape.ldaZp (z : Byte) : Shape.Statement (.ldaZp z) := ⟨rfl, rfl, rfl⟩
theorem Shape.ldaZpx (z : Byte) : Shape.Statement (.ldaZpx z) := ⟨rfl, rfl, rfl⟩
theorem Shape.ldaAbs (w : Word) : Shape.Statement (.ldaAbs w) := ⟨rfl, rfl, rfl⟩
theorem Shape.ldaAbx (w : Word) : Shape.Statement (.ldaAbx w) := ⟨rfl, rfl, rfl⟩
theorem Shape.ldaAby (w : Word) : Shape.Statement (.ldaAby w) := ⟨rfl, rfl, rfl⟩
theorem Shape.ldaIzx (z : Byte) : Shape.Statement (.ldaIzx z) := ⟨rfl, rfl, rfl⟩
theorem Shape.ldaIzy (z : Byte) : Shape.Statement (.ldaIzy z) := ⟨rfl, rfl, rfl⟩
theorem Shape.ldxImm (v : Byte) : Shape.Statement (.ldxImm v) := ⟨rfl, rfl, rfl⟩
theorem Shape.ldxZp (z : Byte) : Shape.Statement (.ldxZp z) := ⟨rfl, rfl, rfl⟩
theorem Shape.ldxZpy (z : Byte) : Shape.Statement (.ldxZpy z) := ⟨rfl, rfl, rfl⟩
theorem Shape.ldxAbs (w : Word) : Shape.Statement (.ldxAbs w) := ⟨rfl, rfl, rfl⟩
theorem Shape.ldxAby (w : Word) : Shape.Statement (.ldxAby w) := ⟨rfl, rfl, rfl⟩
theorem Shape.ldyImm (v : Byte) : Shape.Statement (.ldyImm v) := ⟨rfl, rfl, rfl⟩
theorem Shape.ldyZp (z : Byte) : Shape.Statement (.ldyZp z) := ⟨rfl, rfl, rfl⟩
theorem Shape.ldyZpx (z : Byte) : Shape.Statement (.ldyZpx z) := ⟨rfl, rfl, rfl⟩
theorem Shape.ldyAbs (w : Word) : Shape.Statement (.ldyAbs w) := ⟨rfl, rfl, rfl⟩
theorem Shape.ldyAbx (w : Word) : Shape.Statement (.ldyAbx w) := ⟨rfl, rfl, rfl⟩
theorem Shape.staZp (z : Byte) : Shape.Statement (.staZp z) := ⟨rfl, rfl, rfl⟩
theorem Shape.staZpx (z : Byte) : Shape.Statement (.staZpx z) := ⟨rfl, rfl, rfl⟩
theorem Shape.staAbs (w : Word) : Shape.Statement (.staAbs w) := ⟨rfl, rfl, rfl⟩
theorem Shape.staAbx (w : Word) : Shape.Statement (.staAbx w) := ⟨rfl, rfl, rfl⟩
theorem Shape.staAby (w : Word) : Shape.Statement (.staAby w) := ⟨rfl, rfl, rfl⟩
theorem Shape.staIzx (z : Byte) : Shape.Statement (.staIzx z) := ⟨rfl, rfl, rfl⟩
theorem Shape.staIzy (z : Byte) : Shape.Statement (.staIzy z) := ⟨rfl, rfl, rfl⟩
theorem Shape.stxZp (z : Byte) : Shape.Statement (.stxZp z) := ⟨rfl, rfl, rfl⟩
theorem Shape.stxZpy (z : Byte) : Shape.Statement (.stxZpy z) := ⟨rfl, rfl, rfl⟩
theorem Shape.stxAbs (w : Word) : Shape.Statement (.stxAbs w) := ⟨rfl, rfl, rfl⟩
theorem Shape.styZp (z : Byte) : Shape.Statement (.styZp z) := ⟨rfl, rfl, rfl⟩
theorem Shape.styZpx (z : Byte) : Shape.Statement (.styZpx z) := ⟨rfl, rfl, rfl⟩
theorem Shape.styAbs (w : Word) : Shape.Statement (.styAbs w) := ⟨rfl, rfl, rfl⟩
theorem Shape.tax : Shape.Statement (.tax) := ⟨rfl, rfl, rfl⟩
theorem Shape.tay : Shape.Statement (.tay) := ⟨rfl, rfl, rfl⟩
theorem Shape.txa : Shape.Statement (.txa) := ⟨rfl, rfl, rfl⟩
theorem Shape.tya : Shape.Statement (.tya) := ⟨rfl, rfl, rfl⟩
theorem Shape.tsx : Shape.Statement (.tsx) := ⟨rfl, rfl, rfl⟩
theorem Shape.txs : Shape.Statement (.txs) := ⟨rfl, rfl, rfl⟩
theorem Shape.pha : Shape.Statement (.pha) := ⟨rfl, rfl, rfl⟩
theorem Shape.php : Shape.Statement (.php) := ⟨rfl, rfl, rfl⟩
theorem Shape.pla : Shape.Statement (.pla) := ⟨rfl, rfl, rfl⟩
theorem Shape.plp : Shape.Statement (.plp) := ⟨rfl, rfl, rfl⟩
theorem Shape.andImm (v : Byte) : Shape.Statement (.andImm v) := ⟨rfl, rfl, rfl⟩
theorem Shape.andZp (z : Byte) : Shape.Statement (.andZp z) := ⟨rfl, rfl, rfl⟩
theorem Shape.andZpx (z : Byte) : Shape.Statement (.andZpx z) := ⟨rfl, rfl, rfl⟩
theorem Shape.andAbs (w : Word) : Shape.Statement (.andAbs w) := ⟨rfl, rfl, rfl⟩
theorem Shape.andAbx (w : Word) : Shape.Statement (.andAbx w) := ⟨rfl, rfl, rfl⟩
theorem Shape.andAby (w : Word) : Shape.Statement (.andAby w) := ⟨rfl, rfl, rfl⟩
theorem Shape.andIzx (z : Byte) : Shape.Statement (.andIzx z) := ⟨rfl, rfl, rfl⟩
theorem Shape.andIzy (z : Byte) : Shape.Statement (.andIzy z) := ⟨rfl, rfl, rfl⟩
theorem Shape.oraImm (v : Byte) : Shape.Statement (.oraImm v) := ⟨rfl, rfl, rfl⟩
theorem Shape.oraZp (z : Byte) : Shape.Statement (.oraZp z) := ⟨rfl, rfl, rfl⟩
theorem Shape.oraZpx (z : Byte) : Shape.Statement (.oraZpx z) := ⟨rfl, rfl, rfl⟩
theorem Shape.oraAbs (w : Word) : Shape.Statement (.oraAbs w) := ⟨rfl, rfl, rfl⟩
theorem Shape.oraAbx (w : Word) : Shape.Statement (.oraAbx w) := ⟨rfl, rfl, rfl⟩
theorem Shape.oraAby (w : Word) : Shape.Statement (.oraAby w) := ⟨rfl, rfl, rfl⟩
theorem Shape.oraIzx (z : Byte) : Shape.Statement (.oraIzx z) := ⟨rfl, rfl, rfl⟩
theorem Shape.oraIzy (z : Byte) : Shape.Statement (.oraIzy z) := ⟨rfl, rfl, rfl⟩
theorem Shape.eorImm (v : Byte) : Shape.Statement (.eorImm v) := ⟨rfl, rfl, rfl⟩
theorem Shape.eorZp (z : Byte) : Shape.Statement (.eorZp z) := ⟨rfl, rfl, rfl⟩
theorem Shape.eorZpx (z : Byte) : Shape.Statement (.eorZpx z) := ⟨rfl, rfl, rfl⟩
theorem Shape.eorAbs (w : Word) : Shape.Statement (.eorAbs w) := ⟨rfl, rfl, rfl⟩
theorem Shape.eorAbx (w : Word) : Shape.Statement (.eorAbx w) := ⟨rfl, rfl, rfl⟩
theorem Shape.eorAby (w : Word) : Shape.Statement (.eorAby w) := ⟨rfl, rfl, rfl⟩
theorem Shape.eorIzx (z : Byte) : Shape.Statement (.eorIzx z) := ⟨rfl, rfl, rfl⟩
theorem Shape.eorIzy (z : Byte) : Shape.Statement (.eorIzy z) := ⟨rfl, rfl, rfl⟩
theorem Shape.bitZp (z : Byte) : Shape.Statement (.bitZp z) := ⟨rfl, rfl, rfl⟩
theorem Shape.bitAbs (w : Word) : Shape.Statement (.bitAbs w) := ⟨rfl, rfl, rfl⟩
theorem Shape.adcImm (v : Byte) : Shape.Statement (.adcImm v) := ⟨rfl, rfl, rfl⟩
theorem Shape.adcZp (z : Byte) : Shape.Statement (.adcZp z) := ⟨rfl, rfl, rfl⟩
theorem Shape.adcZpx (z : Byte) : Shape.Statement (.adcZpx z) := ⟨rfl, rfl, rfl⟩
theorem Shape.adcAbs (w : Word) : Shape.Statement (.adcAbs w) := ⟨rfl, rfl, rfl⟩
theorem Shape.adcAbx (w : Word) : Shape.Statement (.adcAbx w) := ⟨rfl, rfl, rfl⟩
theorem Shape.adcAby (w : Word) : Shape.Statement (.adcAby w) := ⟨rfl, rfl, rfl⟩
theorem Shape.adcIzx (z : Byte) : Shape.Statement (.adcIzx z) := ⟨rfl, rfl, rfl⟩
theorem Shape.adcIzy (z : Byte) : Shape.Statement (.adcIzy z) := ⟨rfl, rfl, rfl⟩
theorem Shape.sbcImm (v : Byte) : Shape.Statement (.sbcImm v) := ⟨rfl, rfl, rfl⟩
theorem Shape.sbcZp (z : Byte) : Shape.Statement (.sbcZp z) := ⟨rfl, rfl, rfl⟩
theorem Shape.sbcZpx (z : Byte) : Shape.Statement (.sbcZpx z) := ⟨rfl, rfl, rfl⟩
theorem Shape.sbcAbs (w : Word) : Shape.Statement (.sbcAbs w) := ⟨rfl, rfl, rfl⟩
theorem Shape.sbcAbx (w : Word) : Shape.Statement (.sbcAbx w) := ⟨rfl, rfl, rfl⟩
theorem Shape.sbcAby (w : Word) : Shape.Statement (.sbcAby w) := ⟨rfl, rfl, rfl⟩
theorem Shape.sbcIzx (z : Byte) : Shape.Statement (.sbcIzx z) := ⟨rfl, rfl, rfl⟩
theorem Shape.sbcIzy (z : Byte) : Shape.Statement (.sbcIzy z) := ⟨rfl, rfl, rfl⟩
theorem Shape.cmpImm (v : Byte) : Shape.Statement (.cmpImm v) := ⟨rfl, rfl, rfl⟩
theorem Shape.cmpZp (z : Byte) : Shape.Statement (.cmpZp z) := ⟨rfl, rfl, rfl⟩
theorem Shape.cmpZpx (z : Byte) : Shape.Statement (.cmpZpx z) := ⟨rfl, rfl, rfl⟩
theorem Shape.cmpAbs (w : Word) : Shape.Statement (.cmpAbs w) := ⟨rfl, rfl, rfl⟩
theorem Shape.cmpAbx (w : Word) : Shape.Statement (.cmpAbx w) := ⟨rfl, rfl, rfl⟩
theorem Shape.cmpAby (w : Word) : Shape.Statement (.cmpAby w) := ⟨rfl, rfl, rfl⟩
theorem Shape.cmpIzx (z : Byte) : Shape.Statement (.cmpIzx z) := ⟨rfl, rfl, rfl⟩
theorem Shape.cmpIzy (z : Byte) : Shape.Statement (.cmpIzy z) := ⟨rfl, rfl, rfl⟩
theorem Shape.cpxImm (v : Byte) : Shape.Statement (.cpxImm v) := ⟨rfl, rfl, rfl⟩
theorem Shape.cpxZp (z : Byte) : Shape.Statement (.cpxZp z) := ⟨rfl, rfl, rfl⟩
theorem Shape.cpxAbs (w : Word) : Shape.Statement (.cpxAbs w) := ⟨rfl, rfl, rfl⟩
theorem Shape.cpyImm (v : Byte) : Shape.Statement (.cpyImm v) := ⟨rfl, rfl, rfl⟩
theorem Shape.cpyZp (z : Byte) : Shape.Statement (.cpyZp z) := ⟨rfl, rfl, rfl⟩
theorem Shape.cpyAbs (w : Word) : Shape.Statement (.cpyAbs w) := ⟨rfl, rfl, rfl⟩
theorem Shape.incZp (z : Byte) : Shape.Statement (.incZp z) := ⟨rfl, rfl, rfl⟩
theorem Shape.incZpx (z : Byte) : Shape.Statement (.incZpx z) := ⟨rfl, rfl, rfl⟩
theorem Shape.incAbs (w : Word) : Shape.Statement (.incAbs w) := ⟨rfl, rfl, rfl⟩
theorem Shape.incAbx (w : Word) : Shape.Statement (.incAbx w) := ⟨rfl, rfl, rfl⟩
theorem Shape.decZp (z : Byte) : Shape.Statement (.decZp z) := ⟨rfl, rfl, rfl⟩
theorem Shape.decZpx (z : Byte) : Shape.Statement (.decZpx z) := ⟨rfl, rfl, rfl⟩
theorem Shape.decAbs (w : Word) : Shape.Statement (.decAbs w) := ⟨rfl, rfl, rfl⟩
theorem Shape.decAbx (w : Word) : Shape.Statement (.decAbx w) := ⟨rfl, rfl, rfl⟩
theorem Shape.inx : Shape.Statement (.inx) := ⟨rfl, rfl, rfl⟩
theorem Shape.iny : Shape.Statement (.iny) := ⟨rfl, rfl, rfl⟩
theorem Shape.dex : Shape.Statement (.dex) := ⟨rfl, rfl, rfl⟩
theorem Shape.dey : Shape.Statement (.dey) := ⟨rfl, rfl, rfl⟩
theorem Shape.aslAcc : Shape.Statement (.aslAcc) := ⟨rfl, rfl, rfl⟩
theorem Shape.aslZp (z : Byte) : Shape.Statement (.aslZp z) := ⟨rfl, rfl, rfl⟩
theorem Shape.aslZpx (z : Byte) : Shape.Statement (.aslZpx z) := ⟨rfl, rfl, rfl⟩
theorem Shape.aslAbs (w : Word) : Shape.Statement (.aslAbs w) := ⟨rfl, rfl, rfl⟩
theorem Shape.aslAbx (w : Word) : Shape.Statement (.aslAbx w) := ⟨rfl, rfl, rfl⟩
theorem Shape.lsrAcc : Shape.Statement (.lsrAcc) := ⟨rfl, rfl, rfl⟩
theorem Shape.lsrZp (z : Byte) : Shape.Statement (.lsrZp z) := ⟨rfl, rfl, rfl⟩
theorem Shape.lsrZpx (z : Byte) : Shape.Statement (.lsrZpx z) := ⟨rfl, rfl, rfl⟩
theorem Shape.lsrAbs (w : Word) : Shape.Statement (.lsrAbs w) := ⟨rfl, rfl, rfl⟩
theorem Shape.lsrAbx (w : Word) : Shape.Statement (.lsrAbx w) := ⟨rfl, rfl, rfl⟩
theorem Shape.rolAcc : Shape.Statement (.rolAcc) := ⟨rfl, rfl, rfl⟩
theorem Shape.rolZp (z : Byte) : Shape.Statement (.rolZp z) := ⟨rfl, rfl, rfl⟩
theorem Shape.rolZpx (z : Byte) : Shape.Statement (.rolZpx z) := ⟨rfl, rfl, rfl⟩
theorem Shape.rolAbs (w : Word) : Shape.Statement (.rolAbs w) := ⟨rfl, rfl, rfl⟩
theorem Shape.rolAbx (w : Word) : Shape.Statement (.rolAbx w) := ⟨rfl, rfl, rfl⟩
theorem Shape.rorAcc : Shape.Statement (.rorAcc) := ⟨rfl, rfl, rfl⟩
theorem Shape.rorZp (z : Byte) : Shape.Statement (.rorZp z) := ⟨rfl, rfl, rfl⟩
theorem Shape.rorZpx (z : Byte) : Shape.Statement (.rorZpx z) := ⟨rfl, rfl, rfl⟩
theorem Shape.rorAbs (w : Word) : Shape.Statement (.rorAbs w) := ⟨rfl, rfl, rfl⟩
theorem Shape.rorAbx (w : Word) : Shape.Statement (.rorAbx w) := ⟨rfl, rfl, rfl⟩
theorem Shape.jmpAbs (w : Word) : Shape.Statement (.jmpAbs w) := ⟨rfl, rfl, rfl⟩
theorem Shape.jmpInd (w : Word) : Shape.Statement (.jmpInd w) := ⟨rfl, rfl, rfl⟩
theorem Shape.jsr (w : Word) : Shape.Statement (.jsr w) := ⟨rfl, rfl, rfl⟩
theorem Shape.rts : Shape.Statement (.rts) := ⟨rfl, rfl, rfl⟩
theorem Shape.bcc (o : Byte) : Shape.Statement (.bcc o) := ⟨rfl, rfl, rfl⟩
theorem Shape.bcs (o : Byte) : Shape.Statement (.bcs o) := ⟨rfl, rfl, rfl⟩
theorem Shape.beq (o : Byte) : Shape.Statement (.beq o) := ⟨rfl, rfl, rfl⟩
theorem Shape.bne (o : Byte) : Shape.Statement (.bne o) := ⟨rfl, rfl, rfl⟩
theorem Shape.bmi (o : Byte) : Shape.Statement (.bmi o) := ⟨rfl, rfl, rfl⟩
theorem Shape.bpl (o : Byte) : Shape.Statement (.bpl o) := ⟨rfl, rfl, rfl⟩
theorem Shape.bvc (o : Byte) : Shape.Statement (.bvc o) := ⟨rfl, rfl, rfl⟩
theorem Shape.bvs (o : Byte) : Shape.Statement (.bvs o) := ⟨rfl, rfl, rfl⟩
theorem Shape.clc : Shape.Statement (.clc) := ⟨rfl, rfl, rfl⟩
theorem Shape.sec : Shape.Statement (.sec) := ⟨rfl, rfl, rfl⟩
theorem Shape.cli : Shape.Statement (.cli) := ⟨rfl, rfl, rfl⟩
theorem Shape.sei : Shape.Statement (.sei) := ⟨rfl, rfl, rfl⟩
theorem Shape.cld : Shape.Statement (.cld) := ⟨rfl, rfl, rfl⟩
theorem Shape.sed : Shape.Statement (.sed) := ⟨rfl, rfl, rfl⟩
theorem Shape.clv : Shape.Statement (.clv) := ⟨rfl, rfl, rfl⟩
theorem Shape.nop : Shape.Statement (.nop) := ⟨rfl, rfl, rfl⟩
theorem Shape.brk : Shape.Statement (.brk) := ⟨rfl, rfl, rfl⟩
theorem Shape.rti : Shape.Statement (.rti) := ⟨rfl, rfl, rfl⟩

end Sys2Proof.Laws
end

