-- ==== Sys2Proof/Laws/Run.lean ====
section
/-! SUPPORT. What an instruction of each shape answers, in the terms of Sys2Proof/Safety.lean: the operand or the
address it resolves to, the cost of its table row, and its effect. -/

namespace Sys2Proof.Laws

open Machine Safety

theorem cost_of_row {i : Instr} {row : Row} (s : State) (h : lookup base6502 i.opcode = some row) :
    cost i s = row.cycles
      + (if row.penalty = .pageCross ∧ (operandOf i s).crossed = true then 1 else 0)
      + (if row.penalty = .branch ∧ taken i s = true then
          1 + (if (operandOf i s).crossed = true then 1 else 0) else 0) := by
  unfold cost
  rw [h]

/-- Without a penalty an instruction costs its base cycles. -/
theorem cost_of_none {i : Instr} (s : State) (h : (tableRow i).penalty = .none) : cost i s = (tableRow i).cycles := by
  rw [cost_of_row s (lookup_base i), h]
  rfl

/-- The cycles the model charges an instruction that is no branch are those the table says. -/
theorem charge_of_row {i : Instr} {row : Row} (s : State) (h : lookup base6502 i.opcode = some row)
    (hp : row.penalty ≠ .branch) : charge row.cycles row.penalty (operandOf i s) false = cost i s := by
  rw [cost_of_row s h]
  cases h' : row.penalty
  · rfl
  · simp [charge]
  · exact absurd h' hp

/-- A read instruction completes on the operand it resolves to. -/
theorem exec_read {i : Instr} {f : Byte → State → State} (s : State) (h : kindOf i.mnemonic i.operand = .read f) :
    ∃ m, readOperand i s = .ok m ∧ exec i s = .next (retire (cost i s) (f m (past i.operand s))) := by
  have hf := kindOf_fits i
  rw [h] at hf
  obtain ⟨m, hm⟩ : ∃ m, value (operandOf i s) (past i.operand s) = .ok m := by
    unfold operandOf
    cases ho : i.operand <;> rw [ho] at hf <;> first | exact ⟨_, rfl⟩ | cases hf
  refine ⟨m, hm, ?_⟩
  rw [exec_eq, h]
  simp only [Kind.after]
  unfold operandOf at hm
  rw [hm, ← charge_of_row s (lookup_base i) (penalty_read h)]
  rfl

/-- The operand of a read shape run with the row of its instruction, and what it answers. -/
theorem readShape_row {i : Instr} {f : Byte → State → State} {m : Byte} (s : State) (hm : readOperand i s = .ok m)
    (hp : (tableRow i).penalty ≠ .branch) :
    readShape i.operand (tableRow i).cycles (tableRow i).penalty f s =
      .next (retire (cost i s) (f m (past i.operand s))) := by
  rw [readShape_of_value hm, ← charge_of_row s (lookup_base i) hp]
  rfl

/-- ADC on the machine with parameters `p` completes with its `dec_adc`. -/
theorem execIn_adc (p : Params) {i : Instr} (s : State) (h : i.mnemonic = .adc) :
    ∃ m, readOperand i s = .ok m ∧
      execIn p i s = .next (retire (cost i s) (arithEffect (adcWith p.decAdc) m (past i.operand s))) := by
  obtain ⟨m, hm, _⟩ := exec_read (i := i) (f := arithEffect adc) s (by rw [h]; rfl)
  have hs : execIn p i s =
      readShape i.operand (tableRow i).cycles (tableRow i).penalty (arithEffect (adcWith p.decAdc)) s := by
    cases i <;> first | rfl | cases h
  exact ⟨m, hm, hs.trans (readShape_row s hm (penalty_read (f := arithEffect adc) (by rw [h]; rfl)))⟩

/-- SBC on the machine with parameters `p` completes with its `dec_sbc`. -/
theorem execIn_sbc (p : Params) {i : Instr} (s : State) (h : i.mnemonic = .sbc) :
    ∃ m, readOperand i s = .ok m ∧
      execIn p i s = .next (retire (cost i s) (arithEffect (sbcWith p.decSbc) m (past i.operand s))) := by
  obtain ⟨m, hm, _⟩ := exec_read (i := i) (f := arithEffect sbc) s (by rw [h]; rfl)
  have hs : execIn p i s =
      readShape i.operand (tableRow i).cycles (tableRow i).penalty (arithEffect (sbcWith p.decSbc)) s := by
    cases i <;> first | rfl | cases h
  exact ⟨m, hm, hs.trans (readShape_row s hm (penalty_read (f := arithEffect sbc) (by rw [h]; rfl)))⟩

/-- A write or read-modify-write instruction resolves to an address. -/
theorem target_of_kind {i : Instr} (s : State)
    (h : (∃ r, kindOf i.mnemonic i.operand = .write r) ∨ (∃ r, kindOf i.mnemonic i.operand = .rmw r) ∨
      (∃ r, kindOf i.mnemonic i.operand = .jump r)) : ∃ ea, targetOf i s = .ok ea := by
  have hf := kindOf_fits i
  unfold targetOf operandOf
  rcases h with ⟨r, h⟩ | ⟨r, h⟩ | ⟨r, h⟩ <;> rw [h] at hf <;> cases ho : i.operand <;> rw [ho] at hf <;>
    first | exact ⟨_, rfl⟩ | cases hf

/-- A store completes, writing its register to the address it resolves to. -/
theorem exec_write {i : Instr} {r : State → Byte} (s : State) (h : kindOf i.mnemonic i.operand = .write r) :
    ∃ ea, targetOf i s = .ok ea ∧
      exec i s = .next (retire (cost i s) (writeByte (past i.operand s) ea (r (past i.operand s)))) := by
  obtain ⟨ea, hea⟩ := target_of_kind s (.inl ⟨r, h⟩)
  have hp := penalty_of_kind i
  rw [h] at hp
  refine ⟨ea, hea, ?_⟩
  rw [exec_eq, h, cost_of_none s hp]
  unfold targetOf operandOf at hea
  simp only [Kind.after, hea]
  rfl

/-- A read-modify-write instruction completes on the byte at the address it resolves to. -/
theorem exec_rmw {i : Instr} {f : Byte → Status → Byte × Status} (s : State)
    (h : kindOf i.mnemonic i.operand = .rmw f) :
    ∃ ea, targetOf i s = .ok ea ∧ exec i s = .next (retire (cost i s)
      ((writeByte (past i.operand s) ea (f (readByte s ea) s.p).1).setP (f (readByte s ea) s.p).2)) := by
  obtain ⟨ea, hea⟩ := target_of_kind s (.inr (.inl ⟨f, h⟩))
  have hp := penalty_of_kind i
  rw [h] at hp
  refine ⟨ea, hea, ?_⟩
  rw [exec_eq, h, cost_of_none s hp]
  unfold targetOf operandOf at hea
  simp only [Kind.after, hea]
  rfl

/-- A jump or call completes on the target it resolves to. -/
theorem exec_jump {i : Instr} {f : Word → State → State} (s : State) (h : kindOf i.mnemonic i.operand = .jump f) :
    ∃ target, targetOf i s = .ok target ∧ exec i s = .next (retire (cost i s) (f target (past i.operand s))) := by
  obtain ⟨w, hw⟩ := target_of_kind s (.inr (.inr ⟨f, h⟩))
  have hp := penalty_of_kind i
  rw [h] at hp
  refine ⟨w, hw, ?_⟩
  rw [exec_eq, h, cost_of_none s hp]
  unfold targetOf operandOf at hw
  simp only [Kind.after, hw]
  rfl

/-- An instruction of implied mode completes with its effect. -/
theorem exec_implied {i : Instr} {f : State → State} (s : State) (h : kindOf i.mnemonic i.operand = .implied f) :
    exec i s = .next (retire (cost i s) (f (past i.operand s))) := by
  have hp := penalty_of_kind i
  rw [h] at hp
  rw [exec_eq, h, cost_of_none s hp]
  rfl

/-- The accumulator form of a shift or rotate completes on `A`. -/
theorem exec_acc {i : Instr} {f : Byte → Status → Byte × Status} (s : State)
    (h : kindOf i.mnemonic i.operand = .acc f) :
    exec i s = .next (retire (cost i s) (((past i.operand s).setA (f s.a s.p).1).setP (f s.a s.p).2)) := by
  have hp := penalty_of_kind i
  rw [h] at hp
  rw [exec_eq, h, cost_of_none s hp]
  rfl

end Sys2Proof.Laws
end

