-- ==== Sys2Proof/Laws/Session.lean ====
section
/-! SUPPORT. The host's operations, runs and accessors: one lemma for each thing an operation can do. -/

namespace Sys2Proof.Machine

@[simp] theorem hostOp_reset (s : State) : hostOp .reset s = ⟨resetOp s, .done⟩ := rfl
@[simp] theorem hostOp_step (s : State) : hostOp .step s = replyOf Params.standard (step s) s := rfl
@[simp] theorem hostOp_interrupt (s : State) : hostOp .interrupt s = replyOf Params.standard (interrupt s) s := rfl
@[simp] theorem hostOp_nmi (s : State) :
    hostOp .nonMaskableInterrupt s = replyOf Params.standard (nonMaskableInterrupt s) s := rfl
@[simp] theorem hostOp_write (a : Word) (v : Byte) (s : State) : hostOp (.write a v) s = ⟨writeByte s a v, .done⟩ := rfl
@[simp] theorem hostOp_writeWord (a v : Word) (s : State) : hostOp (.writeWord a v) s = ⟨writeWord s a v, .done⟩ := rfl

@[simp] theorem session_nil (s : State) : session [] s = s := rfl
@[simp] theorem session_cons (op : HostOp) (ops : List HostOp) (s : State) :
    session (op :: ops) s = session ops (hostOp op s).state := rfl

theorem session_append (a b : List HostOp) (s : State) : session (a ++ b) s = session b (session a s) := by
  induction a generalizing s with
  | nil => rfl
  | cons o a ih => exact ih _

/-- The events of a step in terms of `step`. -/
theorem stepEvents_eq (s : State) :
    stepEvents s = match step s with
      | .next t =>
        [⟨.beforeInstruction (opcodeAt s), tick 1 (advancePc 1 s)⟩,
         ⟨.afterInstruction (opcodeAt s) (t.cycles - s.cycles), t⟩]
      | .fault _ | .refused _ => [] := rfl

/-- Before the first reset every accessor is refused. -/
theorem accessor_uninitialized {α : Type} (read : State → α) {s : State} (h : s.life = .uninitialized) :
    accessor read s = .error .uninitialized := by
  simp only [accessor, h]

/-- From the first reset on every accessor delivers what it reads. -/
theorem accessor_ok {α : Type} (read : State → α) {s : State} (h : s.life ≠ .uninitialized) :
    accessor read s = .ok (read s) := by
  cases hl : s.life <;> first | exact absurd hl h | simp only [accessor, hl]

@[simp] theorem readBytes_length (n : Nat) (addr : Word) (s : State) : (readBytes n addr s).length = n := by
  induction n generalizing addr with
  | zero => rfl
  | succ n ih => exact congrArg (· + 1) (ih _)

end Sys2Proof.Machine
end

