-- ==== Sys2Proof/Laws/Stack.lean ====
section
/-! SUPPORT. The stack page and what a push, two pushes and an interrupt entry leave in memory. -/

namespace Sys2Proof.Machine

theorem stackAddr_toNat (sp : Byte) : (stackAddr sp).toNat = 256 + sp.toNat := by
  have := sp.isLt
  simp [stackAddr, stackBase, zext16]
  omega

theorem stackAddr_inj (a b : Byte) : stackAddr a = stackAddr b ↔ a = b := by
  constructor
  · intro h
    have := congrArg BitVec.toNat h
    rw [stackAddr_toNat, stackAddr_toNat] at this
    exact BitVec.eq_of_toNat_eq (by omega)
  · rintro rfl
    rfl

/-- An address above page $01 is no stack location. -/
theorem ne_stackAddr (sp : Byte) (a : Word) (h : 512 ≤ a.toNat) : a ≠ stackAddr sp := by
  intro he
  have := congrArg BitVec.toNat he
  have := sp.isLt
  rw [stackAddr_toNat] at *
  omega

theorem sub_ne (b : Byte) : b - 1 ≠ b ∧ b - 1 - 1 ≠ b ∧ b - 1 - 1 ≠ b - 1 := by
  refine ⟨?_, ?_, ?_⟩ <;> intro h <;> have := congrArg BitVec.toNat h <;>
    simp [BitVec.toNat_sub] at this <;> have := b.isLt <;> omega

theorem readByte_push8 (s : State) (v : Byte) (a : Word) :
    readByte (push8 s v) a = if a = stackAddr s.sp then v else readByte s a :=
  readByte_writeByte s _ _ v

theorem readByte_push16 (s : State) (w : Word) (a : Word) :
    readByte (push16 s w) a =
      if a = stackAddr (s.sp - 1) then loByte w else if a = stackAddr s.sp then hiByte w else readByte s a := by
  rw [push16, readByte_push8, readByte_push8]
  rfl

/-- Every byte of memory after an interrupt entry. -/
theorem readByte_interruptEntry (vector : Word) (b : Bool) (s : State) (a : Word) :
    readByte (interruptEntry vector b s) a =
      if a = stackAddr (s.sp - 1 - 1) then pByte s.p b
      else if a = stackAddr (s.sp - 1) then loByte s.pc
      else if a = stackAddr s.sp then hiByte s.pc else readByte s a := by
  have h : readByte (interruptEntry vector b s) a = readByte (push8 (push16 s s.pc) (pByte s.p b)) a := rfl
  rw [h, readByte_push8, readByte_push16]
  rfl

/-- The address an interrupt entry resumes at, for a vector above the stack page. -/
theorem interruptEntry_pc (vector : Word) (b : Bool) (s : State) (h : 512 ≤ vector.toNat)
    (h1 : 512 ≤ (vector + 1).toNat) : (interruptEntry vector b s).pc = readWord s vector := by
  have e : ∀ a : Word, 512 ≤ a.toNat → readByte (push8 (push16 s s.pc) (pByte s.p b)) a = readByte s a := by
    intro a ha
    rw [readByte_push8, if_neg (ne_stackAddr _ _ ha), readByte_push16, if_neg (ne_stackAddr _ _ ha),
      if_neg (ne_stackAddr _ _ ha)]
  have hp : (interruptEntry vector b s).pc = readWord (push8 (push16 s s.pc) (pByte s.p b)) vector := rfl
  rw [hp, readWord, e _ h1, e _ h, readWord]

theorem readWord_toNat (s : State) (addr : Word) :
    (readWord s addr).toNat = 256 * (readByte s (addr + 1)).toNat + (readByte s addr).toNat := by
  rw [readWord, wordOf_toNat, Nat.mul_comm]

theorem readZp16_toNat (s : State) (z : Byte) :
    (readZp16 s z).toNat = 256 * (readByte s (zext16 (z + 1))).toNat + (readByte s (zext16 z)).toNat := by
  rw [readZp16, wordOf_toNat, Nat.mul_comm]

end Sys2Proof.Machine
end

