-- ==== Sys2Proof/Tests/Slice0.lean ====
section
/-! SUPPORT. Tests: the well-formedness smoke test, the decoding of a written-out word of every constructor, the
vectors of 95_test_vectors.md, and a witness for every statement with hypotheses. -/

namespace Sys2Proof.Tests

open Machine Safety

-- The kernel evaluations below run one after another, so that few threads are held at once.
set_option Elab.async false

/-! ## Well-formedness: a mode the mnemonic's rule does not list is refused -/

theorem test_illFormed_pairs_refused :
    [(Mnemonic.sta, Operand.imm 0x00), (.stx, .zpx 0x10), (.stx, .abx 0x1234), (.sty, .zpy 0x10), (.ldx, .zpx 0x10),
     (.ldx, .izy 0x10), (.ldy, .zpy 0x10), (.lda, .acc), (.lda, .zpy 0x10), (.lda, .ind 0x1234), (.jmp, .rel 0x02),
     (.jmp, .abx 0x1234), (.jsr, .ind 0x1234), (.bne, .abs 0x1234), (.inc, .acc), (.inc, .imm 0x01), (.asl, .imm 0x01),
     (.bit, .imm 0x01), (.cpx, .zpx 0x10), (.tax, .acc), (.nop, .imm 0x00), (.brk, .imm 0x00), (.pha, .zp 0x10),
     (.adc, .imp), (.rts, .abs 0x1234)].all (fun q => wellFormedPair q.1 q.2 == false) = true := by decide

theorem test_wellFormed_pairs_accepted :
    [(Mnemonic.lda, Operand.izx 0x20), (.stx, .zpy 0x10), (.jmp, .ind 0x1234), (.asl, .acc), (.bne, .rel 0xF9),
     (.brk, .imp)].all (fun q => wellFormedPair q.1 q.2) = true := by decide

theorem test_ofParts_refuses_an_unlisted_mode :
    Instr.ofParts .sta (.imm 0x00) = none ∧ Instr.ofParts .jmp (.rel 0x02) = none ∧ Instr.ofParts .inc .acc = none := by
  decide

/-! ## Decoding: the encoding column of the opcode table written out, operand bytes $34 and $12 -/

/-- Every row decodes to its instruction. -/
def decodes (rows : List (Byte × Instr)) : Bool :=
  rows.all fun q => (decode q.1 0x34 0x12).toOption == some q.2

theorem test_decode_0x : decodes [
    (0b00000000, .brk), (0b00000001, .oraIzx 0x34), (0b00000101, .oraZp 0x34), (0b00000110, .aslZp 0x34),
    (0b00001000, .php), (0b00001001, .oraImm 0x34), (0b00001010, .aslAcc), (0b00001101, .oraAbs 0x1234),
    (0b00001110, .aslAbs 0x1234)] = true := by decide +kernel

theorem test_decode_1x : decodes [
    (0b00010000, .bpl 0x34), (0b00010001, .oraIzy 0x34), (0b00010101, .oraZpx 0x34),
    (0b00010110, .aslZpx 0x34), (0b00011000, .clc), (0b00011001, .oraAby 0x1234),
    (0b00011101, .oraAbx 0x1234), (0b00011110, .aslAbx 0x1234)] = true := by decide +kernel

theorem test_decode_2x : decodes [
    (0b00100000, .jsr 0x1234), (0b00100001, .andIzx 0x34), (0b00100100, .bitZp 0x34),
    (0b00100101, .andZp 0x34), (0b00100110, .rolZp 0x34), (0b00101000, .plp), (0b00101001, .andImm 0x34),
    (0b00101010, .rolAcc), (0b00101100, .bitAbs 0x1234), (0b00101101, .andAbs 0x1234),
    (0b00101110, .rolAbs 0x1234)] = true := by decide +kernel

theorem test_decode_3x : decodes [
    (0b00110000, .bmi 0x34), (0b00110001, .andIzy 0x34), (0b00110101, .andZpx 0x34),
    (0b00110110, .rolZpx 0x34), (0b00111000, .sec), (0b00111001, .andAby 0x1234),
    (0b00111101, .andAbx 0x1234), (0b00111110, .rolAbx 0x1234)] = true := by decide +kernel

theorem test_decode_4x : decodes [
    (0b01000000, .rti), (0b01000001, .eorIzx 0x34), (0b01000101, .eorZp 0x34), (0b01000110, .lsrZp 0x34),
    (0b01001000, .pha), (0b01001001, .eorImm 0x34), (0b01001010, .lsrAcc), (0b01001100, .jmpAbs 0x1234),
    (0b01001101, .eorAbs 0x1234), (0b01001110, .lsrAbs 0x1234)] = true := by decide +kernel

theorem test_decode_5x : decodes [
    (0b01010000, .bvc 0x34), (0b01010001, .eorIzy 0x34), (0b01010101, .eorZpx 0x34),
    (0b01010110, .lsrZpx 0x34), (0b01011000, .cli), (0b01011001, .eorAby 0x1234),
    (0b01011101, .eorAbx 0x1234), (0b01011110, .lsrAbx 0x1234)] = true := by decide +kernel

theorem test_decode_6x : decodes [
    (0b01100000, .rts), (0b01100001, .adcIzx 0x34), (0b01100101, .adcZp 0x34), (0b01100110, .rorZp 0x34),
    (0b01101000, .pla), (0b01101001, .adcImm 0x34), (0b01101010, .rorAcc), (0b01101100, .jmpInd 0x1234),
    (0b01101101, .adcAbs 0x1234), (0b01101110, .rorAbs 0x1234)] = true := by decide +kernel

theorem test_decode_7x : decodes [
    (0b01110000, .bvs 0x34), (0b01110001, .adcIzy 0x34), (0b01110101, .adcZpx 0x34),
    (0b01110110, .rorZpx 0x34), (0b01111000, .sei), (0b01111001, .adcAby 0x1234),
    (0b01111101, .adcAbx 0x1234), (0b01111110, .rorAbx 0x1234)] = true := by decide +kernel

theorem test_decode_8x : decodes [
    (0b10000001, .staIzx 0x34), (0b10000100, .styZp 0x34), (0b10000101, .staZp 0x34),
    (0b10000110, .stxZp 0x34), (0b10001000, .dey), (0b10001010, .txa), (0b10001100, .styAbs 0x1234),
    (0b10001101, .staAbs 0x1234), (0b10001110, .stxAbs 0x1234)] = true := by decide +kernel

theorem test_decode_9x : decodes [
    (0b10010000, .bcc 0x34), (0b10010001, .staIzy 0x34), (0b10010100, .styZpx 0x34),
    (0b10010101, .staZpx 0x34), (0b10010110, .stxZpy 0x34), (0b10011000, .tya), (0b10011001, .staAby 0x1234),
    (0b10011010, .txs), (0b10011101, .staAbx 0x1234)] = true := by decide +kernel

theorem test_decode_Ax : decodes [
    (0b10100000, .ldyImm 0x34), (0b10100001, .ldaIzx 0x34), (0b10100010, .ldxImm 0x34),
    (0b10100100, .ldyZp 0x34), (0b10100101, .ldaZp 0x34), (0b10100110, .ldxZp 0x34), (0b10101000, .tay),
    (0b10101001, .ldaImm 0x34), (0b10101010, .tax), (0b10101100, .ldyAbs 0x1234),
    (0b10101101, .ldaAbs 0x1234), (0b10101110, .ldxAbs 0x1234)] = true := by decide +kernel

theorem test_decode_Bx : decodes [
    (0b10110000, .bcs 0x34), (0b10110001, .ldaIzy 0x34), (0b10110100, .ldyZpx 0x34),
    (0b10110101, .ldaZpx 0x34), (0b10110110, .ldxZpy 0x34), (0b10111000, .clv), (0b10111001, .ldaAby 0x1234),
    (0b10111010, .tsx), (0b10111100, .ldyAbx 0x1234), (0b10111101, .ldaAbx 0x1234),
    (0b10111110, .ldxAby 0x1234)] = true := by decide +kernel

theorem test_decode_Cx : decodes [
    (0b11000000, .cpyImm 0x34), (0b11000001, .cmpIzx 0x34), (0b11000100, .cpyZp 0x34),
    (0b11000101, .cmpZp 0x34), (0b11000110, .decZp 0x34), (0b11001000, .iny), (0b11001001, .cmpImm 0x34),
    (0b11001010, .dex), (0b11001100, .cpyAbs 0x1234), (0b11001101, .cmpAbs 0x1234),
    (0b11001110, .decAbs 0x1234)] = true := by decide +kernel

theorem test_decode_Dx : decodes [
    (0b11010000, .bne 0x34), (0b11010001, .cmpIzy 0x34), (0b11010101, .cmpZpx 0x34),
    (0b11010110, .decZpx 0x34), (0b11011000, .cld), (0b11011001, .cmpAby 0x1234),
    (0b11011101, .cmpAbx 0x1234), (0b11011110, .decAbx 0x1234)] = true := by decide +kernel

theorem test_decode_Ex : decodes [
    (0b11100000, .cpxImm 0x34), (0b11100001, .sbcIzx 0x34), (0b11100100, .cpxZp 0x34),
    (0b11100101, .sbcZp 0x34), (0b11100110, .incZp 0x34), (0b11101000, .inx), (0b11101001, .sbcImm 0x34),
    (0b11101010, .nop), (0b11101100, .cpxAbs 0x1234), (0b11101101, .sbcAbs 0x1234),
    (0b11101110, .incAbs 0x1234)] = true := by decide +kernel

theorem test_decode_Fx : decodes [
    (0b11110000, .beq 0x34), (0b11110001, .sbcIzy 0x34), (0b11110101, .sbcZpx 0x34),
    (0b11110110, .incZpx 0x34), (0b11111000, .sed), (0b11111001, .sbcAby 0x1234),
    (0b11111101, .sbcAbx 0x1234), (0b11111110, .incAbx 0x1234)] = true := by decide +kernel

/-- E5, E6 and R65: the operand bytes in their places. -/
theorem test_operand_byte_order :
    decode 0xAD 0x34 0x12 = .ok (.ldaAbs 0x1234) ∧ decode 0x6C 0xFF 0x12 = .ok (.jmpInd 0x12FF) ∧
    decode 0xA9 0xD6 0x00 = .ok (.ldaImm 0xD6) ∧ decode 0xD0 0xF9 0x85 = .ok (.bne 0xF9) := by
  refine ⟨?_, ?_, ?_, ?_⟩ <;> rfl

/-- Every number below a bound lies in exactly one of two rising lists. -/
def splits : Nat → Nat → List Nat → List Nat → Bool
  | 0, _, xs, ys => xs.isEmpty && ys.isEmpty
  | k + 1, n, xs, ys =>
    if xs.head? = some n then splits k (n + 1) xs.tail ys else ys.head? == some n && splits k (n + 1) xs ys.tail

/-- R64 and R66: 151 rows with rising opcode bytes, the 105 listed bytes are all the others; 23 rows of R97. -/
theorem test_table_counts :
    base6502.length = 151 ∧ unmappedBytes.length = 105 ∧
    splits 256 0 (base6502.map fun r => r.opcode.toNat) (unmappedBytes.map BitVec.toNat) = true ∧
    (base6502.filter fun r => r.penalty = .pageCross).length = 23 ∧
    unmappedBytes.all (fun b => (lookup base6502 b).isNone) = true := by
  decide +kernel

/-- R67: a row registered later replaces the earlier one. -/
theorem test_last_writer_wins :
    lookup (base6502 ++ [⟨0x80, .nop, .imm, 2, .none⟩, ⟨0xEA, .clc, .imp, 2, .none⟩]) 0xEA =
      some ⟨0xEA, .clc, .imp, 2, .none⟩ := by decide +kernel

theorem test_encode :
    encode (.staAbs 0x1234) = [0x8D, 0x34, 0x12] ∧ encode (.ldxImm 42) = [0xA2, 0x2A] ∧ encode .brk = [0x00] := by decide

theorem test_decodeTableWord :
    decodeTableWord 8 0xEA = some .nop ∧ decodeTableWord 16 0xD6A9 = some (.ldaImm 0xD6) ∧
    decodeTableWord 24 0x1234BD = some (.ldaAbx 0x1234) ∧ decodeTableWord 8 0xFFA9 = some (.ldaImm 0x00) ∧
    decodeTableWord 8 0x02 = none := by decide +kernel

/-! ## The vectors of 95_test_vectors.md section 3 -/

/-- One vector: the bytes at the origin, the other memory given, the premises on registers and flags, the operations,
the changes to registers and flags, the bytes written and the cycles added. -/
structure Vec where
  origin : Word
  bytes : List Byte
  cells : List Host.Cell
  given : State → State
  ops : List HostOp
  result : State → State
  written : List Host.Cell
  cycles : Nat

def putCells (cells : List Host.Cell) (m : Memory) : Memory := cells.foldl (fun m c => memWrite m c.1 c.2) m

/-- The start state S0 of section 1 with the memory of a vector: reset through the vector holding the origin, which
the vector's own bytes may then overlie (M28, CF5). -/
def start (origin : Word) (bytes : List Byte) (cells : List Host.Cell) : State :=
  let s := { (hostOp .reset (writeWord State.created resetVector origin)).state with pc := origin }
  let s := writeBytes bytes origin s
  s.setMem (putCells cells s.mem)

/-- The operations leave exactly the state the vector says. -/
def Vec.ok (v : Vec) : Bool :=
  let s := v.given (start v.origin v.bytes v.cells)
  let t := v.result s
  decide (session v.ops s =
    { t with
      mem := putCells v.written s.mem
      cycles := s.cycles + v.cycles
      life := if HostOp.step ∈ v.ops then .running else s.life })

def irq : HostOp := .interrupt
def nmi : HostOp := .nonMaskableInterrupt

theorem test_modes_M1_to_M17 : ([
    -- M1: imp: NOP
    ⟨0x0800, [0xEA], [], id, [.step], fun s => { s with pc := 0x0801 }, [], 2⟩,
    -- M2: acc: ASL A
    ⟨0x0800, [0x0A], [], fun s => { s with a := 0x81 }, [.step],
     fun s => { s with a := 0x02, p.c := true, pc := 0x0801 }, [], 2⟩,
    -- M3: imm: LDY #$00
    ⟨0x0800, [0xA0, 0x00], [], fun s => { s with y := 0x55 }, [.step],
     fun s => { s with y := 0x00, p.z := true, pc := 0x0802 }, [], 2⟩,
    -- M4: zp: LDA $10
    ⟨0x0800, [0xA5, 0x10], [(0x0010, 0x7F)], id, [.step], fun s => { s with a := 0x7F, pc := 0x0802 }, [], 3⟩,
    -- M5: zpx: LDA $10,X
    ⟨0x0800, [0xB5, 0x10], [(0x0015, 0x80)], fun s => { s with x := 0x05 }, [.step],
     fun s => { s with a := 0x80, p.n := true, pc := 0x0802 }, [], 4⟩,
    -- M6: zpx wraps in page zero: LDA $FF,X
    ⟨0x0800, [0xB5, 0xFF], [(0x0001, 0x33), (0x0101, 0x44)], fun s => { s with x := 0x02 }, [.step],
     fun s => { s with a := 0x33, pc := 0x0802 }, [], 4⟩,
    -- M7: zpy wraps: LDX $F0,Y
    ⟨0x0800, [0xB6, 0xF0], [(0x0010, 0x11), (0x0110, 0x22)], fun s => { s with y := 0x20 }, [.step],
     fun s => { s with x := 0x11, pc := 0x0802 }, [], 4⟩,
    -- M8: abs: LDA $1234
    ⟨0x0800, [0xAD, 0x34, 0x12], [(0x1234, 0x5A)], id, [.step], fun s => { s with a := 0x5A, pc := 0x0803 }, [], 4⟩,
    -- M9: abx no crossing: LDA $20FF,X
    ⟨0x0800, [0xBD, 0xFF, 0x20], [(0x20FF, 0x01), (0x2100, 0x02)], fun s => { s with x := 0x00 }, [.step],
     fun s => { s with a := 0x01, pc := 0x0803 }, [], 4⟩,
    -- M10: abx crossing: LDA $20FF,X
    ⟨0x0800, [0xBD, 0xFF, 0x20], [(0x20FF, 0x01), (0x2100, 0x02)], fun s => { s with x := 0x01 }, [.step],
     fun s => { s with a := 0x02, pc := 0x0803 }, [], 5⟩,
    -- M11: abx wraps $FFFF+1 to $0000 (a crossing): LDA $FFFF,X
    ⟨0x0800, [0xBD, 0xFF, 0xFF], [(0x0000, 0x77)], fun s => { s with x := 0x01 }, [.step],
     fun s => { s with a := 0x77, pc := 0x0803 }, [], 5⟩,
    -- M12: aby crossing: LDA $12F0,Y
    ⟨0x0800, [0xB9, 0xF0, 0x12], [(0x1310, 0x99)], fun s => { s with y := 0x20 }, [.step],
     fun s => { s with a := 0x99, p.n := true, pc := 0x0803 }, [], 5⟩,
    -- M13: aby no crossing: LDX $12F0,Y
    ⟨0x0800, [0xBE, 0xF0, 0x12], [(0x12FF, 0x07)], fun s => { s with y := 0x0F }, [.step],
     fun s => { s with x := 0x07, pc := 0x0803 }, [], 4⟩,
    -- M14: ind: JMP ($1234)
    ⟨0x0800, [0x6C, 0x34, 0x12], [(0x1234, 0x78), (0x1235, 0x56)], id, [.step],
     fun s => { s with pc := 0x5678 }, [], 5⟩,
    -- M15: ind, pointer at page end, default: JMP ($12FF)
    ⟨0x0800, [0x6C, 0xFF, 0x12], [(0x12FF, 0x78), (0x1300, 0x56), (0x1200, 0x99)], id, [.step],
     fun s => { s with pc := 0x5678 }, [], 5⟩,
    -- M17: izx: LDA ($20,X)
    ⟨0x0800, [0xA1, 0x20], [(0x0024, 0x00), (0x0025, 0x30), (0x3000, 0xC3)],
     fun s => { s with x := 0x04 }, [.step], fun s => { s with a := 0xC3, p.n := true, pc := 0x0802 }, [], 6⟩
    ] : List Vec).all Vec.ok = true := by decide +kernel

theorem test_modes_M18_to_M28 : ([
    -- M18: izx, both wraps: LDA ($FE,X)
    ⟨0x0800, [0xA1, 0xFE], [(0x00FF, 0x34), (0x0000, 0x12), (0x0100, 0x99), (0x1234, 0xAB)],
     fun s => { s with x := 0x01 }, [.step], fun s => { s with a := 0xAB, p.n := true, pc := 0x0802 }, [], 6⟩,
    -- M19: izy no crossing: LDA ($20),Y
    ⟨0x0800, [0xB1, 0x20], [(0x0020, 0xF0), (0x0021, 0x12), (0x12F1, 0x21)],
     fun s => { s with y := 0x01 }, [.step], fun s => { s with a := 0x21, pc := 0x0802 }, [], 5⟩,
    -- M20: izy crossing: LDA ($20),Y
    ⟨0x0800, [0xB1, 0x20], [(0x0020, 0xF0), (0x0021, 0x12), (0x1310, 0x22)],
     fun s => { s with y := 0x20 }, [.step], fun s => { s with a := 0x22, pc := 0x0802 }, [], 6⟩,
    -- M21: izy, pointer at $FF: LDA ($FF),Y
    ⟨0x0800, [0xB1, 0xFF], [(0x00FF, 0x00), (0x0000, 0x30), (0x0100, 0x40), (0x3000, 0xEE)],
     fun s => { s with y := 0x00 }, [.step], fun s => { s with a := 0xEE, p.n := true, pc := 0x0802 }, [], 5⟩,
    -- M22: store abx, no crossing, still 5: STA $2000,X
    ⟨0x0800, [0x9D, 0x00, 0x20], [], fun s => { s with a := 0x42, x := 0x00 }, [.step],
     fun s => { s with pc := 0x0803 }, [(0x2000, 0x42)], 5⟩,
    -- M23: store abx, crossing, 5: STA $20FF,X
    ⟨0x0800, [0x9D, 0xFF, 0x20], [], fun s => { s with a := 0x42, x := 0x01 }, [.step],
     fun s => { s with pc := 0x0803 }, [(0x2100, 0x42)], 5⟩,
    -- M24: store aby: STA $2000,Y
    ⟨0x0800, [0x99, 0x00, 0x20], [], fun s => { s with a := 0x42, y := 0x03 }, [.step],
     fun s => { s with pc := 0x0803 }, [(0x2003, 0x42)], 5⟩,
    -- M25: store izy, no crossing, 6: STA ($22),Y
    ⟨0x0800, [0x91, 0x22], [(0x0022, 0x00), (0x0023, 0x02)], fun s => { s with a := 0x42, y := 0x01 }, [.step],
     fun s => { s with pc := 0x0802 }, [(0x0201, 0x42)], 6⟩,
    -- M26: store izy, crossing, 6: STA ($22),Y
    ⟨0x0800, [0x91, 0x22], [(0x0022, 0xFF), (0x0023, 0x02)], fun s => { s with a := 0x42, y := 0x01 }, [.step],
     fun s => { s with pc := 0x0802 }, [(0x0300, 0x42)], 6⟩,
    -- M27: store izx: STA ($20,X)
    ⟨0x0800, [0x81, 0x20], [(0x0024, 0x00), (0x0025, 0x30)], fun s => { s with a := 0x42, x := 0x04 }, [.step],
     fun s => { s with pc := 0x0802 }, [(0x3000, 0x42)], 6⟩,
    -- M28: PC wraps through $FFFF: LDA #$01
    ⟨0xFFFF, [0xA9, 0x01], [], id, [.step], fun s => { s with a := 0x01, pc := 0x0001 }, [], 2⟩
    ] : List Vec).all Vec.ok = true := by decide +kernel

theorem test_loadStoreTransfer_LS1_to_LS16 : ([
    -- LS1: LDA #$00 (zero)
    ⟨0x0800, [0xA9, 0x00], [], fun s => { s with a := 0x55 }, [.step],
     fun s => { s with a := 0x00, p.z := true, pc := 0x0802 }, [], 2⟩,
    -- LS2: LDA #$80 (negative)
    ⟨0x0800, [0xA9, 0x80], [], id, [.step], fun s => { s with a := 0x80, p.n := true, pc := 0x0802 }, [], 2⟩,
    -- LS3: LDA #$7F; Z, N rewritten, others kept
    ⟨0x0800, [0xA9, 0x7F], [],
     fun s => { s with p.n := true, p.z := true, p.c := true, p.v := true, p.d := true, p.i := true }, [.step],
     fun s => { s with a := 0x7F, p.n := false, p.z := false, pc := 0x0802 }, [], 2⟩,
    -- LS4: LDX #$FF
    ⟨0x0800, [0xA2, 0xFF], [], id, [.step], fun s => { s with x := 0xFF, p.n := true, pc := 0x0802 }, [], 2⟩,
    -- LS5: LDY #$01 clears Z
    ⟨0x0800, [0xA0, 0x01], [], fun s => { s with p.z := true }, [.step],
     fun s => { s with y := 0x01, p.z := false, pc := 0x0802 }, [], 2⟩,
    -- LS6: LDY $10,X
    ⟨0x0800, [0xB4, 0x10], [(0x0011, 0x00)], fun s => { s with x := 0x01 }, [.step],
     fun s => { s with p.z := true, pc := 0x0802 }, [], 4⟩,
    -- LS7: STA $10; no flag changes although A = 0
    ⟨0x0800, [0x85, 0x10], [(0x0010, 0xFF)], fun s => { s with a := 0x00, p.n := true }, [.step],
     fun s => { s with pc := 0x0802 }, [(0x0010, 0x00)], 3⟩,
    -- LS8: STX $10,Y
    ⟨0x0800, [0x96, 0x10], [], fun s => { s with x := 0x9C, y := 0xF8 }, [.step],
     fun s => { s with pc := 0x0802 }, [(0x0008, 0x9C)], 4⟩,
    -- LS9: STY $10,X
    ⟨0x0800, [0x94, 0x10], [], fun s => { s with y := 0x77, x := 0x02 }, [.step],
     fun s => { s with pc := 0x0802 }, [(0x0012, 0x77)], 4⟩,
    -- LS10: STA $1234
    ⟨0x0800, [0x8D, 0x34, 0x12], [], fun s => { s with a := 0xFE }, [.step],
     fun s => { s with pc := 0x0803 }, [(0x1234, 0xFE)], 4⟩,
    -- LS11: STX $1234
    ⟨0x0800, [0x8E, 0x34, 0x12], [], fun s => { s with x := 0x01 }, [.step],
     fun s => { s with pc := 0x0803 }, [(0x1234, 0x01)], 4⟩,
    -- LS12: STY $1234
    ⟨0x0800, [0x8C, 0x34, 0x12], [], fun s => { s with y := 0x02 }, [.step],
     fun s => { s with pc := 0x0803 }, [(0x1234, 0x02)], 4⟩,
    -- LS13: TAX
    ⟨0x0800, [0xAA], [], fun s => { s with a := 0x80 }, [.step],
     fun s => { s with x := 0x80, p.n := true, pc := 0x0801 }, [], 2⟩,
    -- LS14: TAY, zero
    ⟨0x0800, [0xA8], [], fun s => { s with a := 0x00, y := 0x33 }, [.step],
     fun s => { s with y := 0x00, p.z := true, pc := 0x0801 }, [], 2⟩,
    -- LS15: TXA
    ⟨0x0800, [0x8A], [], fun s => { s with x := 0x7F, a := 0xFF, p.n := true }, [.step],
     fun s => { s with a := 0x7F, p.n := false, pc := 0x0801 }, [], 2⟩,
    -- LS16: TYA
    ⟨0x0800, [0x98], [], fun s => { s with y := 0xF0 }, [.step],
     fun s => { s with a := 0xF0, p.n := true, pc := 0x0801 }, [], 2⟩
    ] : List Vec).all Vec.ok = true := by decide +kernel

theorem test_loadStoreTransfer_LS17_to_LS19 : ([
    -- LS17: TSX sets N from SP = $FF
    ⟨0x0800, [0xBA], [], id, [.step], fun s => { s with x := 0xFF, p.n := true, pc := 0x0801 }, [], 2⟩,
    -- LS18: TXS writes no flag
    ⟨0x0800, [0x9A], [], fun s => { s with x := 0x00, p.n := true }, [.step],
     fun s => { s with sp := 0x00, pc := 0x0801 }, [], 2⟩,
    -- LS19: TXS
    ⟨0x0800, [0x9A], [], fun s => { s with x := 0x80 }, [.step], fun s => { s with sp := 0x80, pc := 0x0801 }, [], 2⟩
    ] : List Vec).all Vec.ok = true := by decide +kernel

theorem test_stack_STK1_to_STK12 : ([
    -- STK1: PHA
    ⟨0x0800, [0x48], [], fun s => { s with a := 0x42 }, [.step],
     fun s => { s with sp := 0xFE, pc := 0x0801 }, [(0x01FF, 0x42)], 3⟩,
    -- STK2: PHA with SP = $00 wraps
    ⟨0x0800, [0x48], [], fun s => { s with a := 0x42, sp := 0x00 }, [.step],
     fun s => { s with sp := 0xFF, pc := 0x0801 }, [(0x0100, 0x42)], 3⟩,
    -- STK3: PHP, all flags 0: pushes $30
    ⟨0x0800, [0x08], [], id, [.step], fun s => { s with sp := 0xFE, pc := 0x0801 }, [(0x01FF, 0x30)], 3⟩,
    -- STK4: PHP, N = C = 1: pushes $B1
    ⟨0x0800, [0x08], [], fun s => { s with p.n := true, p.c := true }, [.step],
     fun s => { s with sp := 0xFE, pc := 0x0801 }, [(0x01FF, 0xB1)], 3⟩,
    -- STK5: PHP, N V D I Z C = 1: pushes $FF
    ⟨0x0800, [0x08], [],
     fun s => { s with p.n := true, p.v := true, p.d := true, p.i := true, p.z := true, p.c := true }, [.step],
     fun s => { s with sp := 0xFE, pc := 0x0801 }, [(0x01FF, 0xFF)], 3⟩,
    -- STK6: PLA, zero
    ⟨0x0800, [0x68], [(0x01FF, 0x00)], fun s => { s with sp := 0xFE, a := 0x11 }, [.step],
     fun s => { s with a := 0x00, sp := 0xFF, p.z := true, pc := 0x0801 }, [], 4⟩,
    -- STK7: PLA with SP = $FF wraps to $0100
    ⟨0x0800, [0x68], [(0x0100, 0x9A)], fun s => { s with sp := 0xFF }, [.step],
     fun s => { s with a := 0x9A, sp := 0x00, p.n := true, pc := 0x0801 }, [], 4⟩,
    -- STK8: PLP $FF: six flags set, B stays 0
    ⟨0x0800, [0x28], [(0x01FF, 0xFF)], fun s => { s with sp := 0xFE }, [.step],
     fun s => { s with sp := 0xFF, p.n := true, p.v := true, p.d := true, p.i := true, p.z := true, p.c := true, pc := 0x0801 }, [], 4⟩,
    -- STK9: PLP $30: all clear
    ⟨0x0800, [0x28], [(0x01FF, 0x30)],
     fun s => { s with sp := 0xFE, p.n := true, p.c := true, p.i := true }, [.step],
     fun s => { s with sp := 0xFF, p.n := false, p.i := false, p.c := false, pc := 0x0801 }, [], 4⟩,
    -- STK10: PLP $00 (bits 5, 4 clear): same as $30
    ⟨0x0800, [0x28], [(0x01FF, 0x00)],
     fun s => { s with sp := 0xFE, p.n := true, p.c := true, p.i := true }, [.step],
     fun s => { s with sp := 0xFF, p.n := false, p.i := false, p.c := false, pc := 0x0801 }, [], 4⟩,
    -- STK11: PHP then PLP: flags restored
    ⟨0x0800, [0x08, 0x28], [], fun s => { s with p.v := true, p.z := true }, [.step, .step],
     fun s => { s with pc := 0x0802 }, [(0x01FF, 0x72)], 7⟩,
    -- STK12: PHA then PLA with A = $80
    ⟨0x0800, [0x48, 0x68], [], fun s => { s with a := 0x80 }, [.step, .step],
     fun s => { s with p.n := true, pc := 0x0802 }, [(0x01FF, 0x80)], 7⟩
    ] : List Vec).all Vec.ok = true := by decide +kernel

theorem test_logicArith_ALU1_to_ALU16 : ([
    -- ALU1: AND #$3C
    ⟨0x0800, [0x29, 0x3C], [], fun s => { s with a := 0xF0 }, [.step],
     fun s => { s with a := 0x30, pc := 0x0802 }, [], 2⟩,
    -- ALU2: AND #$00
    ⟨0x0800, [0x29, 0x00], [], fun s => { s with a := 0xFF, p.n := true }, [.step],
     fun s => { s with a := 0x00, p.n := false, p.z := true, pc := 0x0802 }, [], 2⟩,
    -- ALU3: AND $10
    ⟨0x0800, [0x25, 0x10], [(0x0010, 0x80)], fun s => { s with a := 0xFF }, [.step],
     fun s => { s with a := 0x80, p.n := true, pc := 0x0802 }, [], 3⟩,
    -- ALU4: ORA #$80
    ⟨0x0800, [0x09, 0x80], [], fun s => { s with a := 0x0F }, [.step],
     fun s => { s with a := 0x8F, p.n := true, pc := 0x0802 }, [], 2⟩,
    -- ALU5: ORA #$00 with A = 0
    ⟨0x0800, [0x09, 0x00], [], id, [.step], fun s => { s with p.z := true, pc := 0x0802 }, [], 2⟩,
    -- ALU6: EOR #$FF
    ⟨0x0800, [0x49, 0xFF], [], fun s => { s with a := 0xAA }, [.step],
     fun s => { s with a := 0x55, pc := 0x0802 }, [], 2⟩,
    -- ALU7: EOR #$AA, to zero
    ⟨0x0800, [0x49, 0xAA], [], fun s => { s with a := 0xAA }, [.step],
     fun s => { s with a := 0x00, p.z := true, pc := 0x0802 }, [], 2⟩,
    -- ALU8: BIT $10: N, V from memory
    ⟨0x0800, [0x24, 0x10], [(0x0010, 0xC0)], fun s => { s with a := 0x01 }, [.step],
     fun s => { s with p.n := true, p.v := true, p.z := true, pc := 0x0802 }, [], 3⟩,
    -- ALU9: BIT $1234: non-zero AND
    ⟨0x0800, [0x2C, 0x34, 0x12], [(0x1234, 0x3F)],
     fun s => { s with a := 0xFF, p.n := true, p.v := true, p.z := true }, [.step],
     fun s => { s with p.n := false, p.v := false, p.z := false, pc := 0x0803 }, [], 4⟩,
    -- ALU10: ADC #$50 signed overflow
    ⟨0x0800, [0x69, 0x50], [], fun s => { s with a := 0x50 }, [.step],
     fun s => { s with a := 0xA0, p.n := true, p.v := true, pc := 0x0802 }, [], 2⟩,
    -- ALU11: ADC #$01 to $FF: carry, zero
    ⟨0x0800, [0x69, 0x01], [], fun s => { s with a := 0xFF }, [.step],
     fun s => { s with a := 0x00, p.z := true, p.c := true, pc := 0x0802 }, [], 2⟩,
    -- ALU12: ADC #$00 with C = 1 to $7F
    ⟨0x0800, [0x69, 0x00], [], fun s => { s with a := 0x7F, p.c := true }, [.step],
     fun s => { s with a := 0x80, p.n := true, p.v := true, p.c := false, pc := 0x0802 }, [], 2⟩,
    -- ALU13: ADC #$80 to $80
    ⟨0x0800, [0x69, 0x80], [], fun s => { s with a := 0x80 }, [.step],
     fun s => { s with a := 0x00, p.v := true, p.z := true, p.c := true, pc := 0x0802 }, [], 2⟩,
    -- ALU14: ADC #$FF to $FF with C = 1
    ⟨0x0800, [0x69, 0xFF], [], fun s => { s with a := 0xFF, p.c := true }, [.step],
     fun s => { s with p.n := true, pc := 0x0802 }, [], 2⟩,
    -- ALU15: ADC #$10 plain
    ⟨0x0800, [0x69, 0x10], [], fun s => { s with a := 0x20, p.v := true, p.c := false }, [.step],
     fun s => { s with a := 0x30, p.v := false, pc := 0x0802 }, [], 2⟩,
    -- ALU16: ADC $20FF,X crossing
    ⟨0x0800, [0x7D, 0xFF, 0x20], [(0x2100, 0x02)], fun s => { s with a := 0x01, x := 0x01 }, [.step],
     fun s => { s with a := 0x03, pc := 0x0803 }, [], 5⟩
    ] : List Vec).all Vec.ok = true := by decide +kernel

theorem test_logicArith_ALU17_to_ALU30 : ([
    -- ALU17: SBC #$03
    ⟨0x0800, [0xE9, 0x03], [], fun s => { s with a := 0x05, p.c := true }, [.step],
     fun s => { s with a := 0x02, pc := 0x0802 }, [], 2⟩,
    -- ALU18: SBC #$F0 from $50
    ⟨0x0800, [0xE9, 0xF0], [], fun s => { s with a := 0x50, p.c := true }, [.step],
     fun s => { s with a := 0x60, p.c := false, pc := 0x0802 }, [], 2⟩,
    -- ALU19: SBC #$B0 from $50
    ⟨0x0800, [0xE9, 0xB0], [], fun s => { s with a := 0x50, p.c := true }, [.step],
     fun s => { s with a := 0xA0, p.n := true, p.v := true, p.c := false, pc := 0x0802 }, [], 2⟩,
    -- ALU20: SBC #$00 from $00, C = 1
    ⟨0x0800, [0xE9, 0x00], [], fun s => { s with a := 0x00, p.c := true }, [.step],
     fun s => { s with p.z := true, pc := 0x0802 }, [], 2⟩,
    -- ALU21: SBC #$00 from $00, C = 0 (borrow in)
    ⟨0x0800, [0xE9, 0x00], [], fun s => { s with a := 0x00, p.c := false }, [.step],
     fun s => { s with a := 0xFF, p.n := true, pc := 0x0802 }, [], 2⟩,
    -- ALU22: SBC #$01 from $80
    ⟨0x0800, [0xE9, 0x01], [], fun s => { s with a := 0x80, p.c := true }, [.step],
     fun s => { s with a := 0x7F, p.v := true, pc := 0x0802 }, [], 2⟩,
    -- ALU23: CMP #$41, less
    ⟨0x0800, [0xC9, 0x41], [], fun s => { s with a := 0x40 }, [.step],
     fun s => { s with p.n := true, pc := 0x0802 }, [], 2⟩,
    -- ALU24: CMP #$40, equal
    ⟨0x0800, [0xC9, 0x40], [], fun s => { s with a := 0x40 }, [.step],
     fun s => { s with p.z := true, p.c := true, pc := 0x0802 }, [], 2⟩,
    -- ALU25: CMP #$00 with A = $80
    ⟨0x0800, [0xC9, 0x00], [], fun s => { s with a := 0x80 }, [.step],
     fun s => { s with p.n := true, p.c := true, pc := 0x0802 }, [], 2⟩,
    -- ALU26: CMP keeps V and ignores old C
    ⟨0x0800, [0xC9, 0x01], [], fun s => { s with a := 0x02, p.v := true, p.c := false }, [.step],
     fun s => { s with p.c := true, pc := 0x0802 }, [], 2⟩,
    -- ALU27: CPX #$05
    ⟨0x0800, [0xE0, 0x05], [], fun s => { s with x := 0x05 }, [.step],
     fun s => { s with p.z := true, p.c := true, pc := 0x0802 }, [], 2⟩,
    -- ALU28: CPX $10
    ⟨0x0800, [0xE4, 0x10], [(0x0010, 0x01)], fun s => { s with x := 0x00 }, [.step],
     fun s => { s with p.n := true, pc := 0x0802 }, [], 3⟩,
    -- ALU29: CPY #$20
    ⟨0x0800, [0xC0, 0x20], [], fun s => { s with y := 0x10 }, [.step],
     fun s => { s with p.n := true, pc := 0x0802 }, [], 2⟩,
    -- ALU30: CPY $1234
    ⟨0x0800, [0xCC, 0x34, 0x12], [(0x1234, 0x7F)], fun s => { s with y := 0xFF }, [.step],
     fun s => { s with p.n := true, p.c := true, pc := 0x0803 }, [], 4⟩
    ] : List Vec).all Vec.ok = true := by decide +kernel

theorem test_sed_DEC1 : ([
    -- DEC1: SED
    ⟨0x0800, [0xF8], [], id, [.step], fun s => { s with p.d := true, pc := 0x0801 }, [], 2⟩
    ] : List Vec).all Vec.ok = true := by decide +kernel

theorem test_incDecShift_RMW1_to_RMW16 : ([
    -- RMW1: INC $10 wraps
    ⟨0x0800, [0xE6, 0x10], [(0x0010, 0xFF)], id, [.step],
     fun s => { s with p.z := true, pc := 0x0802 }, [(0x0010, 0x00)], 5⟩,
    -- RMW2: INC $10,X
    ⟨0x0800, [0xF6, 0x10], [(0x0011, 0x7F)], fun s => { s with x := 0x01 }, [.step],
     fun s => { s with p.n := true, pc := 0x0802 }, [(0x0011, 0x80)], 6⟩,
    -- RMW3: INC $1234
    ⟨0x0800, [0xEE, 0x34, 0x12], [(0x1234, 0x00)], id, [.step],
     fun s => { s with pc := 0x0803 }, [(0x1234, 0x01)], 6⟩,
    -- RMW4: INC $2000,X: 7 cycles
    ⟨0x0800, [0xFE, 0x00, 0x20], [(0x2000, 0x41)], fun s => { s with x := 0x00 }, [.step],
     fun s => { s with pc := 0x0803 }, [(0x2000, 0x42)], 7⟩,
    -- RMW5: DEC $10 wraps
    ⟨0x0800, [0xC6, 0x10], [(0x0010, 0x00)], id, [.step],
     fun s => { s with p.n := true, pc := 0x0802 }, [(0x0010, 0xFF)], 5⟩,
    -- RMW6: DEC $20FF,X crossing: still 7
    ⟨0x0800, [0xDE, 0xFF, 0x20], [(0x2100, 0x01)], fun s => { s with x := 0x01 }, [.step],
     fun s => { s with p.z := true, pc := 0x0803 }, [(0x2100, 0x00)], 7⟩,
    -- RMW7: INC keeps C and V
    ⟨0x0800, [0xE6, 0x10], [(0x0010, 0xFF)], fun s => { s with p.c := true, p.v := true }, [.step],
     fun s => { s with p.z := true, pc := 0x0802 }, [(0x0010, 0x00)], 5⟩,
    -- RMW8: INX wraps
    ⟨0x0800, [0xE8], [], fun s => { s with x := 0xFF }, [.step],
     fun s => { s with x := 0x00, p.z := true, pc := 0x0801 }, [], 2⟩,
    -- RMW9: INY to $80
    ⟨0x0800, [0xC8], [], fun s => { s with y := 0x7F }, [.step],
     fun s => { s with y := 0x80, p.n := true, pc := 0x0801 }, [], 2⟩,
    -- RMW10: DEX wraps
    ⟨0x0800, [0xCA], [], fun s => { s with x := 0x00 }, [.step],
     fun s => { s with x := 0xFF, p.n := true, pc := 0x0801 }, [], 2⟩,
    -- RMW11: DEY to zero
    ⟨0x0800, [0x88], [], fun s => { s with y := 0x01 }, [.step],
     fun s => { s with y := 0x00, p.z := true, pc := 0x0801 }, [], 2⟩,
    -- RMW12: ASL A
    ⟨0x0800, [0x0A], [], fun s => { s with a := 0x81 }, [.step],
     fun s => { s with a := 0x02, p.c := true, pc := 0x0801 }, [], 2⟩,
    -- RMW13: ASL $10
    ⟨0x0800, [0x06, 0x10], [(0x0010, 0x40)], fun s => { s with p.c := true }, [.step],
     fun s => { s with p.n := true, p.c := false, pc := 0x0802 }, [(0x0010, 0x80)], 5⟩,
    -- RMW14: ASL $1234 to zero
    ⟨0x0800, [0x0E, 0x34, 0x12], [(0x1234, 0x80)], id, [.step],
     fun s => { s with p.z := true, p.c := true, pc := 0x0803 }, [(0x1234, 0x00)], 6⟩,
    -- RMW15: LSR A
    ⟨0x0800, [0x4A], [], fun s => { s with a := 0x01 }, [.step],
     fun s => { s with a := 0x00, p.z := true, p.c := true, pc := 0x0801 }, [], 2⟩,
    -- RMW16: LSR $10,X clears N
    ⟨0x0800, [0x56, 0x10], [(0x0011, 0xFE)], fun s => { s with x := 0x01, p.n := true }, [.step],
     fun s => { s with p.n := false, pc := 0x0802 }, [(0x0011, 0x7F)], 6⟩
    ] : List Vec).all Vec.ok = true := by decide +kernel

theorem test_incDecShift_RMW17_to_RMW22 : ([
    -- RMW17: ROL A, C in
    ⟨0x0800, [0x2A], [], fun s => { s with a := 0x80, p.c := true }, [.step],
     fun s => { s with a := 0x01, pc := 0x0801 }, [], 2⟩,
    -- RMW18: ROL A, C = 0
    ⟨0x0800, [0x2A], [], fun s => { s with a := 0x80, p.c := false }, [.step],
     fun s => { s with a := 0x00, p.z := true, p.c := true, pc := 0x0801 }, [], 2⟩,
    -- RMW19: ROL $2000,X
    ⟨0x0800, [0x3E, 0x00, 0x20], [(0x2002, 0x55)], fun s => { s with x := 0x02, p.c := true }, [.step],
     fun s => { s with p.n := true, p.c := false, pc := 0x0803 }, [(0x2002, 0xAB)], 7⟩,
    -- RMW20: ROR A
    ⟨0x0800, [0x6A], [], fun s => { s with a := 0x01, p.c := false }, [.step],
     fun s => { s with a := 0x00, p.z := true, p.c := true, pc := 0x0801 }, [], 2⟩,
    -- RMW21: ROR $10, C in
    ⟨0x0800, [0x66, 0x10], [(0x0010, 0x01)], fun s => { s with p.c := true }, [.step],
     fun s => { s with p.n := true, pc := 0x0802 }, [(0x0010, 0x80)], 5⟩,
    -- RMW22: ROR $1234
    ⟨0x0800, [0x6E, 0x34, 0x12], [(0x1234, 0x02)], fun s => { s with p.c := false }, [.step],
     fun s => { s with pc := 0x0803 }, [(0x1234, 0x01)], 6⟩
    ] : List Vec).all Vec.ok = true := by decide +kernel

theorem test_controlFlow_CF1_to_CF16 : ([
    -- CF1: JMP $1234
    ⟨0x0800, [0x4C, 0x34, 0x12], [], id, [.step], fun s => { s with pc := 0x1234 }, [], 3⟩,
    -- CF2: JMP to itself, three times
    ⟨0x0800, [0x4C, 0x00, 0x08], [], id, [.step, .step, .step], fun s => { s with pc := 0x0800 }, [], 9⟩,
    -- CF3: JSR $0900
    ⟨0x0800, [0x20, 0x00, 0x09], [], id, [.step],
     fun s => { s with sp := 0xFD, pc := 0x0900 }, [(0x01FF, 0x08), (0x01FE, 0x02)], 6⟩,
    -- CF4: JSR with SP = $00: pushes at $0100 then $01FF
    ⟨0x0800, [0x20, 0x00, 0x09], [], fun s => { s with sp := 0x00 }, [.step],
     fun s => { s with sp := 0xFE, pc := 0x0900 }, [(0x0100, 0x08), (0x01FF, 0x02)], 6⟩,
    -- CF5: JSR at $FFFD pushes $FFFF
    ⟨0x0800, [], [(0xFFFD, 0x20), (0xFFFE, 0x00), (0xFFFF, 0x09)], fun s => { s with pc := 0xFFFD }, [.step],
     fun s => { s with sp := 0xFD, pc := 0x0900 }, [(0x01FF, 0xFF), (0x01FE, 0xFF)], 6⟩,
    -- CF6: RTS
    ⟨0x0900, [0x60], [(0x01FE, 0x02), (0x01FF, 0x08)], fun s => { s with sp := 0xFD }, [.step],
     fun s => { s with sp := 0xFF, pc := 0x0803 }, [], 6⟩,
    -- CF7: RTS pulling $FFFF returns to $0000
    ⟨0x0900, [0x60], [(0x01FE, 0xFF), (0x01FF, 0xFF)], fun s => { s with sp := 0xFD }, [.step],
     fun s => { s with sp := 0xFF, pc := 0x0000 }, [], 6⟩,
    -- CF8: JSR then RTS
    ⟨0x0800, [0x20, 0x00, 0x09], [(0x0900, 0x60)], id, [.step, .step],
     fun s => { s with pc := 0x0803 }, [(0x01FF, 0x08), (0x01FE, 0x02)], 12⟩,
    -- CF9: BCC +4 taken
    ⟨0x0800, [0x90, 0x04], [], fun s => { s with p.c := false }, [.step], fun s => { s with pc := 0x0806 }, [], 3⟩,
    -- CF10: BCC +4 not taken
    ⟨0x0800, [0x90, 0x04], [], fun s => { s with p.c := true }, [.step], fun s => { s with pc := 0x0802 }, [], 2⟩,
    -- CF11: BCS +4 taken
    ⟨0x0800, [0xB0, 0x04], [], fun s => { s with p.c := true }, [.step], fun s => { s with pc := 0x0806 }, [], 3⟩,
    -- CF12: BCS +4 not taken
    ⟨0x0800, [0xB0, 0x04], [], fun s => { s with p.c := false }, [.step], fun s => { s with pc := 0x0802 }, [], 2⟩,
    -- CF13: BEQ +4 taken
    ⟨0x0800, [0xF0, 0x04], [], fun s => { s with p.z := true }, [.step], fun s => { s with pc := 0x0806 }, [], 3⟩,
    -- CF14: BEQ +4 not taken
    ⟨0x0800, [0xF0, 0x04], [], fun s => { s with p.z := false }, [.step], fun s => { s with pc := 0x0802 }, [], 2⟩,
    -- CF15: BNE +4 taken
    ⟨0x0800, [0xD0, 0x04], [], fun s => { s with p.z := false }, [.step], fun s => { s with pc := 0x0806 }, [], 3⟩,
    -- CF16: BNE +4 not taken
    ⟨0x0800, [0xD0, 0x04], [], fun s => { s with p.z := true }, [.step], fun s => { s with pc := 0x0802 }, [], 2⟩
    ] : List Vec).all Vec.ok = true := by decide +kernel

theorem test_controlFlow_CF17_to_CF32 : ([
    -- CF17: BMI +4 taken
    ⟨0x0800, [0x30, 0x04], [], fun s => { s with p.n := true }, [.step], fun s => { s with pc := 0x0806 }, [], 3⟩,
    -- CF18: BMI +4 not taken
    ⟨0x0800, [0x30, 0x04], [], fun s => { s with p.n := false }, [.step], fun s => { s with pc := 0x0802 }, [], 2⟩,
    -- CF19: BPL +4 taken
    ⟨0x0800, [0x10, 0x04], [], fun s => { s with p.n := false }, [.step], fun s => { s with pc := 0x0806 }, [], 3⟩,
    -- CF20: BPL +4 not taken
    ⟨0x0800, [0x10, 0x04], [], fun s => { s with p.n := true }, [.step], fun s => { s with pc := 0x0802 }, [], 2⟩,
    -- CF21: BVC +4 taken
    ⟨0x0800, [0x50, 0x04], [], fun s => { s with p.v := false }, [.step], fun s => { s with pc := 0x0806 }, [], 3⟩,
    -- CF22: BVC +4 not taken
    ⟨0x0800, [0x50, 0x04], [], fun s => { s with p.v := true }, [.step], fun s => { s with pc := 0x0802 }, [], 2⟩,
    -- CF23: BVS +4 taken
    ⟨0x0800, [0x70, 0x04], [], fun s => { s with p.v := true }, [.step], fun s => { s with pc := 0x0806 }, [], 3⟩,
    -- CF24: BVS +4 not taken
    ⟨0x0800, [0x70, 0x04], [], fun s => { s with p.v := false }, [.step], fun s => { s with pc := 0x0802 }, [], 2⟩,
    -- CF25: BNE -7 backward
    ⟨0x080A, [0xD0, 0xF9], [], id, [.step], fun s => { s with pc := 0x0805 }, [], 3⟩,
    -- CF26: BMI +127 forward across a page
    ⟨0x0880, [0x30, 0x7F], [], fun s => { s with p.n := true }, [.step], fun s => { s with pc := 0x0901 }, [], 4⟩,
    -- CF27: BPL -128 backward across a page
    ⟨0x0800, [0x10, 0x80], [], id, [.step], fun s => { s with pc := 0x0782 }, [], 4⟩,
    -- CF28: BVC offset $00: taken, to the next instruction
    ⟨0x0800, [0x50, 0x00], [], id, [.step], fun s => { s with pc := 0x0802 }, [], 3⟩,
    -- CF29: BEQ offset $FE: to itself
    ⟨0x0800, [0xF0, 0xFE], [], fun s => { s with p.z := true }, [.step], fun s => { s with pc := 0x0800 }, [], 3⟩,
    -- CF30: BNE +127 at $FFF0 wraps to $0071
    ⟨0xFFF0, [0xD0, 0x7F], [], id, [.step], fun s => { s with pc := 0x0071 }, [], 4⟩,
    -- CF31: BCC at $08FE: next instruction is $0900, target $0902 same page as $0900
    ⟨0x08FE, [0x90, 0x02], [], id, [.step], fun s => { s with pc := 0x0902 }, [], 3⟩,
    -- CF32: BCC at $08FD, +1: next $08FF, target $0900, crossing
    ⟨0x08FD, [0x90, 0x01], [], id, [.step], fun s => { s with pc := 0x0900 }, [], 4⟩
    ] : List Vec).all Vec.ok = true := by decide +kernel

theorem test_flagSystem_FL1_to_FL16 : ([
    -- FL1: CLC
    ⟨0x0800, [0x18], [], fun s => { s with p.c := true }, [.step],
     fun s => { s with p.c := false, pc := 0x0801 }, [], 2⟩,
    -- FL2: SEC
    ⟨0x0800, [0x38], [], id, [.step], fun s => { s with p.c := true, pc := 0x0801 }, [], 2⟩,
    -- FL3: CLI
    ⟨0x0800, [0x58], [], fun s => { s with p.i := true }, [.step],
     fun s => { s with p.i := false, pc := 0x0801 }, [], 2⟩,
    -- FL4: SEI
    ⟨0x0800, [0x78], [], id, [.step], fun s => { s with p.i := true, pc := 0x0801 }, [], 2⟩,
    -- FL5: CLD
    ⟨0x0800, [0xD8], [], fun s => { s with p.d := true }, [.step],
     fun s => { s with p.d := false, pc := 0x0801 }, [], 2⟩,
    -- FL6: SED
    ⟨0x0800, [0xF8], [], id, [.step], fun s => { s with p.d := true, pc := 0x0801 }, [], 2⟩,
    -- FL7: CLV
    ⟨0x0800, [0xB8], [], fun s => { s with p.v := true }, [.step],
     fun s => { s with p.v := false, pc := 0x0801 }, [], 2⟩,
    -- FL8: CLC when already clear
    ⟨0x0800, [0x18], [], id, [.step], fun s => { s with pc := 0x0801 }, [], 2⟩,
    -- FL9: NOP
    ⟨0x0800, [0xEA], [], fun s => { s with p.n := true, p.z := true, p.c := true }, [.step],
     fun s => { s with pc := 0x0801 }, [], 2⟩,
    -- FL10: BRK, flags 0
    ⟨0x0802, [0x00, 0xEA], [(0xFFFE, 0x00), (0xFFFF, 0x09)], id, [.step],
     fun s => { s with sp := 0xFC, p.i := true, pc := 0x0900 }, [(0x01FF, 0x08), (0x01FE, 0x04), (0x01FD, 0x30)], 7⟩,
    -- FL11: BRK with N = C = 1, I = 1 already: pushes $B5
    ⟨0x0802, [0x00, 0xEA], [(0xFFFE, 0x00), (0xFFFF, 0x09)],
     fun s => { s with p.n := true, p.c := true, p.i := true }, [.step],
     fun s => { s with sp := 0xFC, pc := 0x0900 }, [(0x01FF, 0x08), (0x01FE, 0x04), (0x01FD, 0xB5)], 7⟩,
    -- FL12: BRK with D = 1: D stays 1, pushed $38
    ⟨0x0802, [0x00, 0xEA], [(0xFFFE, 0x00), (0xFFFF, 0x09)], fun s => { s with p.d := true }, [.step],
     fun s => { s with sp := 0xFC, p.i := true, pc := 0x0900 }, [(0x01FF, 0x08), (0x01FE, 0x04), (0x01FD, 0x38)], 7⟩,
    -- FL13: BRK with SP = $01: pushes at $0101, $0100, $01FF
    ⟨0x0802, [0x00, 0xEA], [(0xFFFE, 0x00), (0xFFFF, 0x09)], fun s => { s with sp := 0x01 }, [.step],
     fun s => { s with sp := 0xFE, p.i := true, pc := 0x0900 }, [(0x0101, 0x08), (0x0100, 0x04), (0x01FF, 0x30)], 7⟩,
    -- FL14: BRK with unset vector goes to $0000
    ⟨0x0802, [0x00, 0xEA], [], id, [.step],
     fun s => { s with sp := 0xFC, p.i := true, pc := 0x0000 }, [(0x01FF, 0x08), (0x01FE, 0x04), (0x01FD, 0x30)], 7⟩,
    -- FL15: RTI
    ⟨0x0900, [0x40], [(0x01FD, 0x30), (0x01FE, 0x04), (0x01FF, 0x08)],
     fun s => { s with sp := 0xFC, p.i := true }, [.step],
     fun s => { s with sp := 0xFF, p.i := false, pc := 0x0804 }, [], 6⟩,
    -- FL16: RTI pulling $CB: N V D Z C set, I clear; B stays 0
    ⟨0x0900, [0x40], [(0x01FD, 0xCB), (0x01FE, 0x34), (0x01FF, 0x12)],
     fun s => { s with sp := 0xFC, p.i := true }, [.step],
     fun s => { s with sp := 0xFF, p.n := true, p.v := true, p.d := true, p.i := false, p.z := true, p.c := true, pc := 0x1234 }, [], 6⟩
    ] : List Vec).all Vec.ok = true := by decide +kernel

theorem test_flagSystem_FL17 : ([
    -- FL17: BRK then RTI
    ⟨0x0802, [0x00, 0xEA], [(0xFFFE, 0x00), (0xFFFF, 0x09), (0x0900, 0x40)], id, [.step, .step],
     fun s => { s with pc := 0x0804 }, [(0x01FF, 0x08), (0x01FE, 0x04), (0x01FD, 0x30)], 13⟩
    ] : List Vec).all Vec.ok = true := by decide +kernel

theorem test_interrupts_INT1_to_INT10 : ([
    -- INT1: IRQ right after reset (I = 0): taken
    ⟨0x0800, [], [(0xFFFE, 0x00), (0xFFFF, 0x09), (0xFFFA, 0x00), (0xFFFB, 0x0A)], id, [irq],
     fun s => { s with sp := 0xFC, p.i := true, pc := 0x0900 }, [(0x01FF, 0x08), (0x01FE, 0x00), (0x01FD, 0x20)], 7⟩,
    -- INT2: IRQ with I = 1: ignored
    ⟨0x0800, [], [(0xFFFE, 0x00), (0xFFFF, 0x09), (0xFFFA, 0x00), (0xFFFB, 0x0A)],
     fun s => { s with p.i := true }, [irq], fun s => { s with pc := 0x0800 }, [], 0⟩,
    -- INT3: NMI with I = 1: taken, pushed byte $24
    ⟨0x0800, [], [(0xFFFE, 0x00), (0xFFFF, 0x09), (0xFFFA, 0x00), (0xFFFB, 0x0A)],
     fun s => { s with p.i := true }, [nmi],
     fun s => { s with sp := 0xFC, pc := 0x0A00 }, [(0x01FF, 0x08), (0x01FE, 0x00), (0x01FD, 0x24)], 7⟩,
    -- INT4: NMI, N = 1, PC = $0805 (the example of rule R223)
    ⟨0x0800, [], [(0xFFFE, 0x00), (0xFFFF, 0x09), (0xFFFA, 0x00), (0xFFFB, 0x0A)],
     fun s => { s with p.n := true, pc := 0x0805 }, [nmi],
     fun s => { s with sp := 0xFC, p.i := true, pc := 0x0A00 }, [(0x01FF, 0x08), (0x01FE, 0x05), (0x01FD, 0xA0)], 7⟩,
    -- INT5: IRQ with D = 1, C = 1: D unchanged, pushed $29
    ⟨0x0800, [], [(0xFFFE, 0x00), (0xFFFF, 0x09), (0xFFFA, 0x00), (0xFFFB, 0x0A)],
     fun s => { s with p.d := true, p.c := true }, [irq],
     fun s => { s with sp := 0xFC, p.i := true, pc := 0x0900 }, [(0x01FF, 0x08), (0x01FE, 0x00), (0x01FD, 0x29)], 7⟩,
    -- INT6: NMI then IRQ: only the NMI is taken
    ⟨0x0800, [], [(0xFFFE, 0x00), (0xFFFF, 0x09), (0xFFFA, 0x00), (0xFFFB, 0x0A)], id, [nmi, irq],
     fun s => { s with sp := 0xFC, p.i := true, pc := 0x0A00 }, [(0x01FF, 0x08), (0x01FE, 0x00), (0x01FD, 0x20)], 7⟩,
    -- INT7: IRQ then NMI: both taken; NMI handler runs first
    ⟨0x0800, [], [(0xFFFE, 0x00), (0xFFFF, 0x09), (0xFFFA, 0x00), (0xFFFB, 0x0A)], id, [irq, nmi],
     fun s => { s with sp := 0xF9, p.i := true, pc := 0x0A00 },
     [(0x01FF, 0x08), (0x01FE, 0x00), (0x01FD, 0x20), (0x01FC, 0x09), (0x01FB, 0x00), (0x01FA, 0x24)], 14⟩,
    -- INT8: IRQ, then RTI at $0900: back at $0800, I = 0
    ⟨0x0800, [],
     [(0xFFFE, 0x00), (0xFFFF, 0x09), (0xFFFA, 0x00), (0xFFFB, 0x0A), (0x0900, 0x40)], id, [irq, .step],
     fun s => { s with pc := 0x0800 }, [(0x01FF, 0x08), (0x01FE, 0x00), (0x01FD, 0x20)], 13⟩,
    -- INT9: SEI; IRQ (ignored); CLI; IRQ (taken)
    ⟨0x0800, [0x78, 0x58],
     [(0xFFFE, 0x00), (0xFFFF, 0x09), (0xFFFA, 0x00), (0xFFFB, 0x0A)], id, [.step, irq, .step, irq],
     fun s => { s with sp := 0xFC, p.i := true, pc := 0x0900 }, [(0x01FF, 0x08), (0x01FE, 0x02), (0x01FD, 0x20)], 11⟩,
    -- INT10: IRQ with SP = $01: frame wraps
    ⟨0x0800, [], [(0xFFFE, 0x00), (0xFFFF, 0x09), (0xFFFA, 0x00), (0xFFFB, 0x0A)],
     fun s => { s with sp := 0x01 }, [irq],
     fun s => { s with sp := 0xFE, p.i := true, pc := 0x0900 }, [(0x0101, 0x08), (0x0100, 0x00), (0x01FF, 0x20)], 7⟩
    ] : List Vec).all Vec.ok = true := by decide +kernel

/-- The registers, flags, counters and lifecycle a state shows, for the tables that list all of them. -/
def shows (s : State) (a x y sp : Byte) (pc : Word) (p : Status) (cycles : Nat) (life : Life) : Bool :=
  decide (s.a = a ∧ s.x = x ∧ s.y = y ∧ s.sp = sp ∧ s.pc = pc ∧ s.p = p ∧ s.cycles = cycles ∧ s.life = life)

def flagsClear : Status := ⟨false, false, false, false, false, false, false⟩

def pcAfter (r : Result) : Option Word :=
  match r with
  | .next t => some t.pc
  | .fault _ | .refused _ => none

/-- M15 and M16: the same pointer at a page end with the parameter false and true. -/
theorem test_M15_M16_indirect_page_end :
    let s := start 0x0800 [0x6C, 0xFF, 0x12] [(0x12FF, 0x78), (0x1300, 0x56), (0x1200, 0x99)]
    indirectTarget false 0x12FF s = 0x5678 ∧ indirectTarget true 0x12FF s = 0x9978 := by decide +kernel

/-- M15 and M16 as steps: the machine with the parameter true reads $9978 at the page end, the default $5678. -/
theorem test_M15_M16_as_steps :
    let s := start 0x0800 [0x6C, 0xFF, 0x12] [(0x12FF, 0x78), (0x1300, 0x56), (0x1200, 0x99)]
    pcAfter (stepIn { Params.standard with jmpIndPageWrap := true } s) = some 0x9978 ∧
    pcAfter (step s) = some 0x5678 := by decide +kernel

/-- The parameters with the candidate of R139 for `DECIMAL`. -/
def nmosParams : Params := { Params.standard with decAdc := nmosDecAdc, decSbc := nmosDecSbc }

/-- DEC2 and DEC6 as steps on that machine: ADC #$01 on $09 gives $10 and SBC #$01 on $10 gives $09. -/
theorem test_DEC2_DEC6_as_steps :
    (match stepIn nmosParams { start 0x0800 [0x69, 0x01] [] with a := 0x09, p.d := true } with
      | .next t => decide (t.a = 0x10 ∧ t.p.c = false ∧ t.cycles = 10)
      | .fault _ | .refused _ => false) = true ∧
    (match stepIn nmosParams { start 0x0800 [0xE9, 0x01] [] with a := 0x10, p.d := true, p.c := true } with
      | .next t => decide (t.a = 0x09 ∧ t.p.c = true ∧ t.cycles = 10)
      | .fault _ | .refused _ => false) = true := by decide +kernel

/-- Two extension entries made up for the tests: a branch always taken at $80, and at $82 an entry of mode `imm` whose
semantics needs an address. -/
def extParams : Params := { Params.standard with
  extTable := [
    ⟨0x80, "BRA", .rel, 2, .branch, fun op s => match op with | .rel target _ => some (s.setPc target, true) | _ => none⟩,
    ⟨0x82, "BAD", .imm, 2, .none, fun op s => match op with | .mem ea _ => some (writeByte s ea 0, false) | _ => none⟩] }

/-- R68, R96 and R212 on those entries: the branch to another page costs 4, the second faults with PC and cycles past
its two bytes, the base row of $A9 is as before, and with the default both bytes are unknown. -/
theorem test_extension_entries :
    let s := start 0x08F0 [0x80, 0x7F] []
    let u := start 0x0800 [0x82, 0x10] []
    (hostOpIn extParams .step s).state = { s with pc := 0x0971, cycles := 12, life := .running } ∧
    hostOpIn extParams .step u = ⟨{ u with pc := 0x0802, cycles := 10, life := .faulted }, .fault .invalidAddressingModeUse⟩ ∧
    (hostOpIn extParams .step (start 0x0800 [0xA9, 0xD6] [])).state.a = 0xD6 ∧
    (hostOp .step s).report = .fault (.unknownOpcode 0x80 0x08F0) ∧
    (hostOp .step u).report = .fault (.unknownOpcode 0x82 0x0800) := by decide +kernel

/-- DEC2 to DEC5 and DEC6 to DEC8: the candidate of R139, columns A, N, V, Z, C. -/
theorem test_DEC2_to_DEC5_candidate :
    nmosDecAdc 0x09 0x01 false = ⟨0x10, false, false, false, false⟩ ∧
    nmosDecAdc 0x99 0x01 false = ⟨0x00, true, false, false, true⟩ ∧
    nmosDecAdc 0x79 0x00 true = ⟨0x80, true, true, false, false⟩ ∧
    nmosDecAdc 0x58 0x46 true = ⟨0x05, true, true, false, true⟩ := by decide +kernel

theorem test_DEC6_to_DEC8_candidate :
    nmosDecSbc 0x10 0x01 true = ⟨0x09, false, false, false, true⟩ ∧
    nmosDecSbc 0x00 0x01 true = ⟨0x99, true, false, false, false⟩ ∧
    nmosDecSbc 0x46 0x12 true = ⟨0x34, false, false, false, true⟩ := by decide +kernel

/-- R134 with D = 1: the result is the open parameter's, whatever it is; D stays 1, PC and cycles hold regardless. -/
theorem test_adc_decimal_is_open :
    let s := { State.reset with p.d := true }
    exec (.adcImm 0x01) s = .next { s with
      a := (Config.decAdc 0x00 0x01 false).a
      p := decimalFlags s.p (Config.decAdc 0x00 0x01 false)
      pc := 0x0002, cycles := 10, life := .running } := rfl

/-- RST1 to RST4. -/
theorem test_RST1_to_RST4 :
    (shows (session [.reset] State.created) 0 0 0 0xFF 0x0000 flagsClear 8 .ready &&
      shows (session [.writeWord 0xFFFC 0x0800, .reset] State.created) 0 0 0 0xFF 0x0800 flagsClear 8 .ready &&
      shows (session [.write 0xFFFC 0x34, .write 0xFFFD 0x12, .reset] State.created)
        0 0 0 0xFF 0x1234 flagsClear 8 .ready &&
      shows (session [.writeWord 0xFFFC 0x0800, .reset, .reset] State.created) 0 0 0 0xFF 0x0800 flagsClear 8 .ready)
      = true := by decide +kernel

/-- RST5: reset after running discards registers, flags and cycles and keeps memory. -/
theorem test_RST5 :
    let s := session [.step, .step, .step, .step, .step] (start 0x0800 [0xA9, 0x80, 0x48, 0x38, 0x78, 0xF8] [])
    let t := session [.reset] s
    (shows s 0x80 0 0 0xFE 0x0806 ⟨true, false, false, true, true, false, true⟩ 19 .running &&
      shows t 0 0 0 0xFF 0x0800 flagsClear 8 .ready && readByte t 0x01FF == 0x80) = true := by decide +kernel

/-- RST6: reset leaves Faulted. -/
theorem test_RST6 :
    let s := session [.step] (start 0x0800 [0xFF] [])
    (shows s 0 0 0 0xFF 0x0801 flagsClear 9 .faulted &&
      shows (session [.reset] s) 0 0 0 0xFF 0x0800 flagsClear 8 .ready) = true := by decide +kernel

/-- The reset state is what `reset` makes of the machine at creation (R28, R40). -/
theorem test_reset_state : (hostOp .reset State.created).state = State.reset := by decide

/-- FLT1, FLT2, FLT3 and FLT5: the fault carries the byte and its address, and only PC, cycles and life change. -/
theorem test_FLT1_FLT2_FLT3_FLT5 :
    let s := { start 0x0800 [0xFF] [] with a := 0x12, x := 0x34, y := 0x56, p.n := true, p.c := true }
    let u := start 0xFFFF [0x03] []
    hostOp .step s =
      ⟨{ s with pc := 0x0801, cycles := 9, life := .faulted }, .fault (.unknownOpcode 0xFF 0x0800)⟩ ∧
    (hostOp .step (start 0x0800 [0x02] [])).report = .fault (.unknownOpcode 0x02 0x0800) ∧
    (hostOp .step (start 0x0800 [0x80, 0x00] [])).report = .fault (.unknownOpcode 0x80 0x0800) ∧
    hostOp .step u = ⟨{ u with pc := 0x0000, cycles := 9, life := .faulted }, .fault (.unknownOpcode 0x03 0xFFFF)⟩ := by
  decide +kernel

/-- FLT4: a good instruction, a fault, a refusal. -/
theorem test_FLT4 :
    let s := session [.step] (start 0x0800 [0xA9, 0x01, 0x89, 0xEA] [])
    let t := (hostOp .step s).state
    (hostOp .step s).report = .fault (.unknownOpcode 0x89 0x0802) ∧
    hostOp .step t = ⟨t, .refused .faulted⟩ ∧ t.a = 0x01 ∧ t.pc = 0x0803 ∧ t.cycles = 11 := by decide +kernel

/-- R214 and R29: before the first reset a step is refused and no accessor delivers anything. -/
theorem test_uninitialized_refuses :
    hostOp .step State.created = ⟨State.created, .refused .uninitialized⟩ ∧
    view State.created = .error .uninitialized ∧ statusView State.created = .error .uninitialized ∧
    programCycles State.created = .error .uninitialized ∧ memoryRange 1 0xFFFC State.created = .error .uninitialized :=
  ⟨rfl, rfl, rfl, rfl, rfl⟩

/-- E5 and the events of R27 for it. -/
theorem test_E5_and_its_events :
    let s := start 0x0800 [0xA9, 0xD6, 0x00] []
    let t := { s with a := 0xD6, p.n := true, pc := 0x0802, cycles := 10, life := .running }
    (hostOp .step s).state = t ∧ programCycles t = .ok 2 ∧
    stepEvents s = [⟨.beforeInstruction 0xA9, { s with pc := 0x0801, cycles := 9 }⟩, ⟨.afterInstruction 0xA9 2, t⟩] := by
  decide +kernel

/-- E7 at both ends of the address space. -/
theorem test_E7_word_round_trip :
    readWord (writeWord State.reset 0xFFFC 0x0800) 0xFFFC = 0x0800 ∧
    readByte (writeWord State.reset 0xFFFC 0x0800) 0xFFFD = 0x08 ∧
    readWord (writeWord State.reset 0xFFFF 0x1234) 0xFFFF = 0x1234 ∧
    readByte (writeWord State.reset 0xFFFF 0x1234) 0x0000 = 0x12 := by decide +kernel

/-- R16: bit 5 reads 1, the stored B reads 0 in the host's byte and 1 in the byte PHP pushes. -/
theorem test_status_byte :
    statusView State.reset = .ok 0x20 ∧ pByte State.reset.p true = 0x30 ∧
    pLoad flagsClear 0xFF = ⟨true, true, false, true, true, true, true⟩ := by decide +kernel

/-- The memory form: a written zero is not listed, and cells stay sorted. -/
theorem test_memory_canonical :
    memWrite (memWrite (memWrite [] 0x20 5) 0x10 7) 0x20 0 = [(0x10, 7)] ∧
    Memory.wf [(0x10, 7), (0x20, 5)] = true ∧ Memory.wf [(0x20, 5), (0x10, 7)] = false ∧
    Memory.wf [(0x10, 0)] = false ∧ Memory.wf [(65536, 1)] = false := by decide +kernel

/-- An instruction placed where the first step after reset fetches runs there: LDA $1234,X and INC $34. -/
theorem test_withFetchWord_runs_first :
    (match step (State.reset.withFetchWord 24 0x1234BD) with
      | .next t => decide (t.pc = 0x0003 ∧ t.cycles = 12 ∧ t.p.z = true)
      | .fault _ | .refused _ => false) = true ∧
    (match step (State.reset.withFetchWord 16 0x34E6) with
      | .next t => decide (t.pc = 0x0002 ∧ t.cycles = 13 ∧ readByte t 0x34 = 0x01)
      | .fault _ | .refused _ => false) = true := by decide +kernel

/-! ## Witnesses: a state and operands that meet the hypotheses of each statement that has any -/

/-- E5's program. -/
def sE5 : State := start 0x0800 [0xA9, 0xD6, 0x00] []

theorem exec_next (i : Instr) (s : State) : ∃ t, exec i s = .next t := ⟨_, Laws.exec_eq i s⟩

theorem witness_StepRunsTheDecodedInstruction :
    Live sE5 ∧
      decode (readByte sE5 sE5.pc) (readByte sE5 (sE5.pc + 1)) (readByte sE5 (sE5.pc + 2)) = .ok (.ldaImm 0xD6) := by
  decide +kernel

/-- A step on a state whose bytes at PC decode has a next state. -/
theorem step_of_fetch {s : State} {i : Instr} (hl : Live s) (h : fetchInstr s = .ok i) : ∃ t, step s = .next t := by
  refine ⟨_, Eq.trans ?_ (Laws.exec_eq i s)⟩
  rw [step_eq]
  rcases hl with h1 | h1 <;> rw [h1] <;> simp only [h]

theorem step_sE5 : ∃ t, step sE5 = .next t := step_of_fetch (i := .ldaImm 0xD6) (by decide) (by decide +kernel)

theorem witness_UnmappedByteFaultsAndOthersComplete :
    (Live (start 0x0800 [0x02] []) ∧ readByte (start 0x0800 [0x02] []) 0x0800 ∈ unmappedBytes) ∧
      (Live (start 0x0800 [0xFF] []) ∧ readByte (start 0x0800 [0xFF] []) 0x0800 ∈ unmappedBytes) ∧
      Live State.reset ∧ readByte State.reset State.reset.pc ∉ unmappedBytes := by decide +kernel

theorem witness_FaultLeavesOnlyPcCyclesAndLife :
    Live (start 0xFFFF [0x03] []) ∧
      readByte (start 0xFFFF [0x03] []) (start 0xFFFF [0x03] []).pc ∈ unmappedBytes := by decide +kernel

theorem witness_StepFaultsOnlyWithUnknownOpcode :
    ∃ s f, step s = .fault f := by
  refine ⟨{ State.reset with mem := [(0x0000, 0xFF)] }, .unknownOpcode 0xFF 0x0000, ?_⟩
  have h : fetchInstr { State.reset with mem := [(0x0000, 0xFF)] } = .error (.unknownOpcode 0xFF) := by decide +kernel
  rw [step_eq]
  rw [h]
  rfl

/-- Each lifecycle state the clauses name, the first byte of a range that wraps among them. -/
theorem witness_RefusalsAndAccessorsFollowTheLifecycle :
    HostOp.step ∈ [HostOp.step, .interrupt, .nonMaskableInterrupt] ∧ State.created.life = .uninitialized ∧
      (hostOp .step (start 0x0800 [0xFF] [])).state.life = .faulted ∧ State.reset.life ≠ .uninitialized ∧
      memoryRange 2 0xFFFF State.reset = .ok [0x00, 0x00] := by decide +kernel

theorem witness_DecodedBytesAreTheEncoding : decode 0xFD 0xFF 0xFF = .ok (.sbcAbx 0xFFFF) := rfl

theorem witness_ResetLeavesTheStatedValues :
    readByte (start 0xFF00 [] []) 0xFFFC = 0x00 ∧ readByte (start 0xFF00 [] []) 0xFFFD = 0xFF := by decide +kernel

/-- Two machines that differ in everything but memory. -/
theorem witness_ResetDependsOnTheMemoryAlone :
    State.reset.mem = State.created.mem ∧ State.reset ≠ State.created ∧
      { State.reset with a := 0x55, p := ⟨true, true, true, true, true, true, true⟩, life := .faulted }.mem =
        State.reset.mem :=
  ⟨rfl, (fun h => nomatch congrArg State.life h), rfl⟩

/-- A launch image with the reset vector at $0800. -/
theorem witness_ResetStateMeetsTheInvariant :
    Memory.wf { Params.standard with m0 := [(0x0800, 0xEA), (0xFFFD, 0x08)] }.m0 = true := by decide

theorem witness_StepKeepsTheInvariant : Inv sE5 ∧ ∃ t, step sE5 = .next t :=
  ⟨by decide +kernel, step_sE5⟩

/-- The invariant also holds before the first reset, in Faulted and right at the bound of the cycles. -/
theorem witness_HostOperationsKeepTheInvariant :
    Inv State.created ∧ Inv (hostOp .step (start 0x0800 [0xFF] [])).state ∧ Inv State.reset ∧
      State.reset.cycles = startupCycles := by decide +kernel

theorem witness_CyclesNeverDecreaseBetweenResets :
    HostOp.step ≠ .reset ∧ HostOp.write 0xFFFF 0xFF ≠ .reset ∧ HostOp.writeWord 0xFFFF 0x1234 ≠ .reset ∧
      ∃ t, step sE5 = .next t := 
  ⟨by decide, by decide, by decide, step_sE5⟩

theorem witness_NoInstructionDependsOnTheCycleCounter : ∃ t, exec (.ldaAbx 0x20FF) sE5 = .next t := exec_next _ _

theorem witness_NoInstructionReadsTheBreakFlag : ∃ t, exec .php sE5 = .next t := exec_next _ _

theorem witness_OnlyAdcAndSbcComputeWithTheDecimalFlag :
    Instr.mnemonic (.cmpImm 0x05) ∉ [Mnemonic.adc, .sbc, .php, .brk, .plp, .rti, .sed, .cld] ∧
      ∃ t, exec (.cmpImm 0x05) sE5 = .next t := ⟨by decide, exec_next _ _⟩

theorem witness_WordAccessesAreLittleEndianAndWrap :
    (0x1000 : Word) ≠ 0xFFFF ∧ (0x1000 : Word) ≠ 0xFFFF + 1 := by decide

theorem witness_PullGivesBackTheBytePushed : (0x01FE : Word) ≠ stackSlot State.reset 0 := by decide

/-- Whether an instruction meets each mnemonic hypothesis of a result statement. -/
def are (q : List (Mnemonic × Instr)) : Bool := q.all fun c => decide (c.2.mnemonic = c.1)

theorem witness_LoadsSetTheirRegisterAndNZ :
    are [(.lda, .ldaIzx 0xFF), (.ldx, .ldxZpy 0xFF), (.ldy, .ldyAbx 0xFFFF)] = true := by decide

theorem witness_StoresWriteTheirRegister :
    are [(.sta, .staIzy 0xFF), (.stx, .stxZpy 0xFF), (.sty, .styAbs 0xFFFF)] = true := by decide

theorem witness_LogicInstructionsCombineWithA :
    are [(.and, .andImm 0x80), (.ora, .oraZp 0x00), (.eor, .eorAby 0xFFFF)] = true := by decide

theorem witness_BitTestsWithoutChangingA : are [(.bit, .bitZp 0x00), (.bit, .bitAbs 0xFFFF)] = true := by decide

theorem witness_AdcAndSbcFollowTheirPseudocode : are [(.adc, .adcImm 0xFF), (.sbc, .sbcIzy 0xFF)] = true := by decide

theorem witness_ComparesSetNZCAndStoreNothing :
    are [(.cmp, .cmpImm 0xFF), (.cpx, .cpxAbs 0x0000), (.cpy, .cpyZp 0xFF)] = true := by decide

theorem witness_IncAndDecMemoryWrap : are [(.inc, .incAbx 0xFFFF), (.dec, .decZpx 0xFF)] = true := by decide

theorem witness_ShiftsAndRotatesMoveOneBitThroughCarry :
    are [(.asl, .aslAcc), (.asl, .aslZp 0xFF), (.lsr, .lsrAcc), (.lsr, .lsrAbx 0xFFFF), (.rol, .rolAcc),
      (.rol, .rolAbs 0x0000), (.ror, .rorAcc), (.ror, .rorZpx 0x80)] = true ∧
    Instr.operand .aslAcc = .acc ∧ Instr.operand (.aslZp 0xFF) ≠ .acc := by decide

theorem witness_BinaryAddAndSubtractAreExactArithmetic :
    State.reset.p.d = false ∧ Instr.mnemonic (.adcImm 0x80) = .adc ∧ Instr.mnemonic (.sbcImm 0x80) = .sbc := by decide

theorem witness_JsrPushesItsLastAddressAndRtsReturns :
    (0x01FD : Word) ≠ stackSlot State.reset 0 ∧ (0x01FD : Word) ≠ stackSlot State.reset 1 := by decide

/-- Each branch with its condition, here all eight in the reset state. -/
theorem witness_BranchesGoToTheTargetWhenTheirFlagSays :
    ([(.bcc 0x80, true), (.bcs 0x80, false), (.beq 0x7F, false), (.bne 0x7F, true), (.bmi 0xFE, false), (.bpl 0xFE, true),
      (.bvc 0x00, true), (.bvs 0x00, false)] : List (Instr × Bool)).all (fun q =>
        let o := match q.1.operand with | .rel o => o | _ => 0
        let s := State.reset
        decide (q ∈ [(Instr.bcc o, !s.p.c), (.bcs o, s.p.c), (.beq o, s.p.z), (.bne o, !s.p.z), (.bmi o, s.p.n),
          (.bpl o, !s.p.n), (.bvc o, !s.p.v), (.bvs o, s.p.v)])) = true := by decide

/-- An entry for the byte at PC whose semantics completes, one whose semantics does not, a byte without an entry that is
unmapped and one that decodes; and the instructions that depend on no parameter. -/
theorem witness_ExtensionTableOverlaysTheBaseTable :
    (let s := start 0x08F0 [0x80, 0x7F] [];
      Live s ∧ ∃ e, extLookup extParams.extTable (readByte s s.pc) = some e ∧ e.mode = .rel ∧
        (e.semantics (.rel 0x0971 true) s).isSome = true) ∧
    (let s := start 0x0800 [0x82, 0x10] [];
      Live s ∧ ∃ e, extLookup extParams.extTable (readByte s s.pc) = some e ∧ e.mode = .imm ∧
        (e.semantics (.imm 0x10) s).isNone = true) ∧
    (let s := start 0x0800 [0x83] [];
      Live s ∧ (extLookup extParams.extTable (readByte s s.pc)).isNone = true ∧ readByte s s.pc ∈ unmappedBytes) ∧
    (let s := start 0x0800 [0xA9, 0xD6] [];
      Live s ∧ (extLookup extParams.extTable (readByte s s.pc)).isNone = true ∧
        decode (readByte s s.pc) (readByte s (s.pc + 1)) (readByte s (s.pc + 2)) = .ok (.ldaImm 0xD6)) ∧
    Instr.mnemonic (.jmpAbs 0xFFFF) ∉ [Mnemonic.adc, .sbc] ∧ (Instr.operand (.jmpAbs 0xFFFF)).mode ≠ .ind := by
  refine ⟨⟨by decide +kernel, extParams.extTable[0], ?_, rfl, rfl⟩, ⟨by decide +kernel, extParams.extTable[1], ?_, rfl, rfl⟩,
    by decide +kernel, by decide +kernel, by decide, by decide⟩
  · rw [show readByte (start 0x08F0 [0x80, 0x7F] []) (start 0x08F0 [0x80, 0x7F] []).pc = 0x80 by decide +kernel]
    rfl
  · rw [show readByte (start 0x0800 [0x82, 0x10] []) (start 0x0800 [0x82, 0x10] []).pc = 0x82 by decide +kernel]
    rfl

theorem witness_IndirectTargetFollowsTheParameter : (Operand.abs 0x12FF).mode ≠ .ind := by decide

/-- The addresses `Entered` says keep their byte. -/
theorem witness_BrkEntersTheIrqHandler :
    (0x01FC : Word) ≠ stackSlot State.reset 0 ∧ (0x01FC : Word) ≠ stackSlot State.reset 1 ∧
      (0x01FC : Word) ≠ stackSlot State.reset 2 := by decide

/-- Ready with I = 0 and Running with I = 1; used by the three statements about IRQ and NMI. -/
theorem witness_InterruptRequestsEnterTheirHandlers :
    (Live State.reset ∧ State.reset.p.i = false) ∧
      Live { State.reset with p.i := true, life := .running } ∧
      { State.reset with p.i := true, life := .running }.p.i = true := by decide

theorem witness_NmiMasksAFollowingIrqButNotTheOtherWayRound :
    Live { State.reset with sp := 0x01 } ∧ { State.reset with sp := 0x01 }.p.i = false := by decide

theorem witness_RtiUndoesEveryInterruptEntry :
    Live { State.reset with sp := 0x00 } ∧ { State.reset with sp := 0x00 }.p.i = false := by decide

theorem witness_InstructionsThatStoreNothingLeaveMemory :
    storesByte (.lsrAcc) = false ∧ pushCount (.lsrAcc) = 0 ∧ ∃ t, exec .lsrAcc sE5 = .next t :=
  ⟨rfl, rfl, exec_next _ _⟩

/-- A store at the top of memory and the three pushes of BRK with SP = $01. -/
theorem witness_StoringInstructionsTouchOnlyTheirBytes :
    (∃ t, exec (.staAbs 0xFFFF) sE5 = .next t) ∧ storesByte (.staAbs 0xFFFF) = true ∧
      targetOf (.staAbs 0xFFFF) sE5 = .ok 0xFFFF ∧ (0x0000 : Word) ≠ 0xFFFF ∧
      (∃ t, exec .brk { sE5 with sp := 0x01 } = .next t) ∧ pushCount .brk ≠ 0 ∧
      ∀ k, k < pushCount .brk → (0x01FE : Word) ≠ stackSlot { sE5 with sp := 0x01 } k :=
  ⟨exec_next _ _, rfl, rfl, by decide, exec_next _ _, by decide, by decide +kernel⟩

theorem witness_RegistersChangeOnlyByTheirWriters :
    (∃ t, exec (.aslZp 0x10) sE5 = .next t) ∧
      Instr.mnemonic (.aslZp 0x10) ∉ [Mnemonic.lda, .txa, .tya, .pla, .and, .ora, .eor, .adc, .sbc] ∧
      Instr.operand (.aslZp 0x10) ≠ .acc ∧ Instr.mnemonic .tax ∉ [Mnemonic.txs, .pha, .php, .pla, .plp] ∧
      Instr.mnemonic .tay ∉ [Mnemonic.ldx, .tax, .tsx, .inx, .dex] ∧
      Instr.mnemonic .tax ∉ [Mnemonic.ldy, .tay, .iny, .dey] :=
  ⟨exec_next _ _, by decide, by decide, by decide, by decide, by decide⟩

theorem witness_FlagsChangeOnlyByTheirWriters :
    (∃ t, exec (.staZp 0x10) sE5 = .next t) ∧ (∃ t, exec .sec sE5 = .next t) ∧
      Instr.mnemonic (.staZp 0x10) ∉ [Mnemonic.adc, .sbc, .cmp, .cpx, .cpy, .asl, .lsr, .rol, .ror, .clc, .sec, .plp, .rti] ∧
      Instr.mnemonic .sec ∉ [Mnemonic.cld, .sed, .plp, .rti] ∧
      Instr.mnemonic .sec ∉ [Mnemonic.cli, .sei, .plp, .rti, .brk] ∧
      Instr.mnemonic .sec ∉ [Mnemonic.adc, .sbc, .bit, .clv, .plp, .rti] :=
  ⟨exec_next _ _, exec_next _ _, by decide, by decide, by decide, by decide⟩

/-- STA $0803 at $0800 overwrites the next opcode byte: with A = $FF an unmapped byte, with A = $EA a NOP. -/
def sSelf (v : Byte) : State := { start 0x0800 [0x8D, 0x03, 0x08] [] with a := v }

/-- A push onto the next opcode byte: PHA at $01EF with SP = $F0. -/
def sPush : State := { start 0x01EF [0x48] [] with a := 0xEA, sp := 0xF0 }

/-- STA to the next opcode byte, an unmapped and a mapped one; INC of the operand byte of the next instruction (LDA #$41
becomes LDA #$42); PHA onto the next opcode byte. -/
theorem witness_StoreIsSeenByTheNextFetch :
    (∃ t, exec (.staAbs 0x0803) (sSelf 0xFF) = .next t ∧ byteAfter (.staAbs 0x0803) (sSelf 0xFF) t.pc = 0xFF ∧
      (0xFF : Byte) ∈ unmappedBytes) ∧
    (∃ t, exec (.staAbs 0x0803) (sSelf 0xEA) = .next t ∧
      decode (byteAfter (.staAbs 0x0803) (sSelf 0xEA) t.pc) (byteAfter (.staAbs 0x0803) (sSelf 0xEA) (t.pc + 1))
        (byteAfter (.staAbs 0x0803) (sSelf 0xEA) (t.pc + 2)) = .ok .nop) ∧
    (let s := start 0x0800 [0xEE, 0x04, 0x08, 0xA9, 0x41] []
      ∃ t, exec (.incAbs 0x0804) s = .next t ∧
        decode (byteAfter (.incAbs 0x0804) s t.pc) (byteAfter (.incAbs 0x0804) s (t.pc + 1))
          (byteAfter (.incAbs 0x0804) s (t.pc + 2)) = .ok (.ldaImm 0x42)) ∧
    (∃ t, exec .pha sPush = .next t ∧
      decode (byteAfter .pha sPush t.pc) (byteAfter .pha sPush (t.pc + 1)) (byteAfter .pha sPush (t.pc + 2)) = .ok .nop) :=
  ⟨⟨_, rfl, by decide +kernel, by decide⟩, ⟨_, rfl, by decide +kernel⟩, ⟨_, rfl, by decide +kernel⟩,
    ⟨_, rfl, by decide +kernel⟩⟩

theorem witness_StepEmitsTwoEventsWhenItCompletes :
    (Live sE5 ∧ fetchInstr sE5 = .ok (.ldaImm 0xD6)) ∧ ∀ t, step State.created ≠ .next t :=
  ⟨by decide +kernel, fun _ h => nomatch h⟩

theorem witness_LifecycleFollowsTheOperations :
    Live State.reset ∧ Live { State.reset with life := .running } := by decide

/-- An image at $0800, and one from $FFFE that wraps to $0000, right past the reset vector. -/
theorem witness_LoadedImageStartsAtItsOrigin :
    ([0xA9, 0xD6, 0x00] : List Byte).length ≤ 65536 ∧
      (∀ k, k < 3 → (0x0800 : Word) + BitVec.ofNat 16 k ≠ 0xFFFC ∧ (0x0800 : Word) + BitVec.ofNat 16 k ≠ 0xFFFD) ∧
      (∀ k, k < 3 → (0xFFFE : Word) + BitVec.ofNat 16 k ≠ 0xFFFC ∧ (0xFFFE : Word) + BitVec.ofNat 16 k ≠ 0xFFFD) := by
  decide +kernel

theorem witness_FlagInstructionsWriteOneFlagAndNopNone :
    let s := start 0x0800 [0x80] []
    Live s ∧ readByte s s.pc ∈ unmappedBytes := by decide +kernel

/-- ADC and SBC are instructions, CLD and SED complete, and each flag change of the last clause happens. -/
theorem witness_DecimalAndOverflowFlagInstructions :
    (Instr.adcImm 0x01).mnemonic = .adc ∧ (Instr.sbcIzy 0xFF).mnemonic = .sbc ∧ (∃ t, exec .cld sE5 = .next t) ∧ (∃ t, exec .sed sE5 = .next t) ∧
      (let s := { State.reset with p.d := true }
        ∃ t, exec .cld s = .next t ∧ s.p.d = true ∧ t.p.d = false) ∧
      (∃ t, exec .sed State.reset = .next t ∧ State.reset.p.d = false ∧ t.p.d = true) ∧
      (let s := { State.reset with a := 0x50 }
        ∃ t, exec (.adcImm 0x50) s = .next t ∧ s.p.v = false ∧ t.p.v = true) :=
  ⟨rfl, rfl, exec_next _ _, exec_next _ _, ⟨_, rfl, rfl, rfl⟩, ⟨_, rfl, rfl, rfl⟩, ⟨_, rfl, rfl, by decide +kernel⟩⟩

end Sys2Proof.Tests
end

section
/-! The machine as a function of its parameters (spec/00_scope.md R6): what an entry of `EXT_TABLE` leaves, what a
byte that no table lists does, and the statement on the overlay. -/

namespace Sys2Proof.Proofs

open Machine Safety

/-- An operand has the mode it was assembled by. -/
@[simp] theorem assembleOperand_mode (md : Mode) (b1 b2 : Byte) : (assembleOperand md b1 b2).mode = md := by
  cases md <;> rfl

/-- The operand of the extension entry `e` at `PC` (30_encoding.md R62). -/
def entryOperand (e : ExtEntry) (s : State) : Operand :=
  assembleOperand e.mode (readByte s (s.pc + 1)) (readByte s (s.pc + 2))

/-- The state the semantics of the extension entry `e` is applied to: `PC` past the instruction. -/
def entryState (e : ExtEntry) (s : State) : State := { s with pc := s.pc + BitVec.ofNat 16 e.mode.length }

/-- What the operand of the extension entry `e` resolves to (40_addressing_modes.md R80 step 3). -/
def entryOpnd (p : Params) (e : ExtEntry) (s : State) : Opnd := resolveIn p (entryOperand e s) (entryState e s)

theorem past_entryOperand (e : ExtEntry) (s : State) : past (entryOperand e s) s = entryState e s := by
  simp only [past, entryOperand, assembleOperand_mode]
  rfl

/-- The cycle count after the charge of R96: base cycles, the page-cross penalty and the branch rule added. -/
theorem add_charge (c n : Nat) (pen : Penalty) (op : Opnd) (taken : Bool) :
    c + charge n pen op taken = c + n + (if pen = .pageCross ∧ op.crossed = true then 1 else 0)
      + (if pen = .branch ∧ taken = true then 1 + (if op.crossed = true then 1 else 0) else 0) := by
  cases pen with
  | none => rfl
  | pageCross => simp [charge, Nat.add_assoc]
  | branch => cases taken <;> cases h : op.crossed <;> simp [charge, h, Nat.add_assoc]

/-- An entry whose semantics can use its operand completes at the charge of its row. -/
theorem runEntry_of_some {p : Params} {e : ExtEntry} {s t : State} {taken : Bool}
    (h : e.semantics (entryOpnd p e s) (entryState e s) = some (t, taken)) :
    runEntry p e s = .next { t with
      cycles := s.cycles + charge e.cycles e.penalty (entryOpnd p e s) taken
      life := .running } := by
  rw [entryOpnd, ← past_entryOperand] at h ⊢
  unfold entryOperand at h ⊢
  simp only [runEntry, h]
  rfl

/-- An entry whose semantics cannot use its operand faults (40_addressing_modes.md R95). -/
theorem runEntry_of_none {p : Params} {e : ExtEntry} {s : State}
    (h : e.semantics (entryOpnd p e s) (entryState e s) = none) :
    runEntry p e s = .fault .invalidAddressingModeUse := by
  rw [entryOpnd, ← past_entryOperand] at h
  unfold entryOperand at h
  simp only [runEntry, h]

/-- A fault of an extension entry advances `PC` and `cycles` by the bytes its mode reads (decision D25). -/
theorem faultState_of_entry {p : Params} {e : ExtEntry} {s : State}
    (he : extLookup p.extTable (opcodeAt s) = some e) :
    faultState p .invalidAddressingModeUse s =
      { entryState e s with cycles := s.cycles + e.mode.length, life := .faulted } := by
  have hn : bytesReadAtFault p .invalidAddressingModeUse s = e.mode.length := by
    simp [bytesReadAtFault, activeMode, he]
  rw [faultState, hn]
  rfl

/-- The base table has no row for the 105 bytes of R66. -/
theorem lookup_unmapped : ∀ b ∈ unmappedBytes, lookup base6502 b = none := by decide +kernel

theorem fetchInstr_unmapped {s : State} (h : opcodeAt s ∈ unmappedBytes) :
    fetchInstr s = .error (.unknownOpcode (opcodeAt s)) := by
  unfold fetchInstr decode
  rw [lookup_unmapped _ h]

/-- A byte that neither `EXT_TABLE` nor the base table lists faults (60_exceptions.md R211). -/
theorem stepIn_of_unmapped {p : Params} {s : State} (hl : Live s) (he : extLookup p.extTable (opcodeAt s) = none)
    (hu : opcodeAt s ∈ unmappedBytes) : stepIn p s = .fault (.unknownOpcode (opcodeAt s) s.pc) := by
  rw [stepIn_base hl he, fetchInstr_unmapped hu]
  rfl

/-- Without an entry for its byte, an instruction of the base table runs. -/
theorem stepIn_of_fetch {p : Params} {s : State} {i : Instr} (hl : Live s)
    (he : extLookup p.extTable (opcodeAt s) = none) (hi : fetchInstr s = .ok i) : stepIn p s = execIn p i s := by
  rw [stepIn_base hl he, hi]

/-- Settles O44: `stepIn` looks up `EXT_TABLE` first, so the clauses are the two outcomes of an entry and the two
of a byte without one. -/
theorem extensionTableOverlaysTheBaseTable : Obligations.ExtensionTableOverlaysTheBaseTable := by
  refine ⟨fun es e b => ⟨rfl, extLookup_append es e b⟩, fun _ => rfl,
    fun i s => ⟨execIn_standard i s, fun p hm => execIn_of_ne p s (by simpa using hm)⟩,
    fun p s hl => ⟨fun e he => ⟨fun t taken hsem => ?_, fun hsem => ?_⟩,
      fun he => ⟨stepIn_of_unmapped hl he, fun i => stepIn_of_fetch hl he⟩⟩⟩
  · rw [stepIn_ext hl he, runEntry_of_some hsem, add_charge]
    rfl
  · rw [← entryState, ← faultState_of_entry he]
    simp only [hostOpIn, stepIn_ext hl he, runEntry_of_none hsem, replyOf]

end Sys2Proof.Proofs
end

section
/-! What one instruction does, in one equation for all shapes: an effect on the state whose `PC` is past the
instruction, then the cost of its row charged. What the effect leaves unchanged and what it does not read is said
once for each field, by mnemonic. -/

namespace Sys2Proof.Proofs

open Machine Safety Laws

/-! ## The effect of an instruction -/

/-- The address an operand names: the effective address or the branch target. -/
def opndAddr : Opnd → Word
  | .mem ea _ => ea
  | .rel target _ => target
  | .none | .acc | .imm _ => 0

/-- The effect of a shape, given the byte `b` that its operand delivers and the address `w` that it names. -/
def kindEffect (k : Kind) (b : Byte) (w : Word) (s : State) : State :=
  match k with
  | .read f => f b s
  | .write reg => writeByte s w (reg s)
  | .rmw f => (writeByte s w (f (readByte s w) s.p).1).setP (f (readByte s w) s.p).2
  | .acc f => (s.setA (f s.a s.p).1).setP (f s.a s.p).2
  | .implied f => f s
  | .jump f => f w s
  | .branch cond => s.setPc (if cond s.p then w else s.pc)

/-- What an instruction leaves before its cycles are charged. -/
def effectOf (i : Instr) (s : State) : State :=
  kindEffect (kindOf i.mnemonic i.operand) ((readOperand i s).toOption.getD 0) (opndAddr (operandOf i s))
    (past i.operand s)

theorem opndAddr_of_addr {op : Opnd} {ea : Word} (h : addr op = .ok ea) : opndAddr op = ea := by
  cases op <;> cases h
  rfl

/-- A branch is taken when the condition of its shape holds. -/
theorem branch_cond_eq_taken {i : Instr} {cond : Status → Bool} (s : State)
    (h : kindOf i.mnemonic i.operand = .branch cond) : cond s.p = taken i s := by
  unfold taken
  generalize i.mnemonic = m at h
  cases m
  case asl | lsr | rol | ror => cases ho : i.operand <;> rw [ho] at h <;> cases h
  case bcc | bcs | beq | bne | bmi | bpl | bvc | bvs => cases h; simp
  all_goals cases h

/-- A branch completes at the cost of its row, on its target when its condition holds. -/
theorem exec_branch {i : Instr} {cond : Status → Bool} (s : State)
    (h : kindOf i.mnemonic i.operand = .branch cond) :
    exec i s = .next (retire (cost i s)
      ((past i.operand s).setPc (if cond s.p then opndAddr (operandOf i s) else (past i.operand s).pc))) := by
  have hp := penalty_of_kind i
  have hf := kindOf_fits i
  rw [h] at hp hf
  have hc : charge (tableRow i).cycles .branch (operandOf i s) (cond s.p) = cost i s := by
    rw [cost_of_row s (lookup_base i), hp, branch_cond_eq_taken s h]
    simpa using add_charge 0 (tableRow i).cycles .branch (operandOf i s) (taken i s)
  obtain ⟨o, ho⟩ : ∃ o, i.operand = .rel o := by
    cases ho : i.operand <;> rw [ho] at hf <;> cases hf
    exact ⟨_, rfl⟩
  rw [exec_eq, h, ← hc]
  simp only [Kind.after, operandOf, ho, past_p]
  cases cond s.p <;> rfl

/-- Every instruction completes: its effect, then the cost of its row. -/
theorem exec_eq_effect (i : Instr) (s : State) : exec i s = .next (retire (cost i s) (effectOf i s)) := by
  unfold effectOf
  cases h : kindOf i.mnemonic i.operand with
  | read f =>
    obtain ⟨m, hm, he⟩ := exec_read s h
    rw [he, hm]
    rfl
  | write reg =>
    obtain ⟨ea, hea, he⟩ := exec_write s h
    rw [he, opndAddr_of_addr hea]
    rfl
  | rmw f =>
    obtain ⟨ea, hea, he⟩ := exec_rmw s h
    rw [he, opndAddr_of_addr hea]
    rfl
  | jump f =>
    obtain ⟨ea, hea, he⟩ := exec_jump s h
    rw [he, opndAddr_of_addr hea]
    rfl
  | acc f => exact exec_acc s h
  | implied f => exact exec_implied s h
  | branch cond => exact exec_branch s h

/-- The state a completed instruction leaves. -/
theorem eq_of_exec {i : Instr} {s t : State} (h : exec i s = .next t) : t = retire (cost i s) (effectOf i s) :=
  Host.Outcome.next.inj (h.symm.trans (exec_eq_effect i s))

/-! ## What an instruction does not read -/

/-- The machine with another stored Break flag. -/
def withBreak (b : Bool) (s : State) : State := { s with p := { s.p with b := b } }

/-- The machine with another cycle count. -/
def withCycles (n : Nat) (s : State) : State := { s with cycles := n }

/-- SBC is ADC of the complemented operand with its own decimal result. -/
theorem sbcWith_eq_adcWith (dec : Byte → Byte → Bool → DecimalResult) (a m : Byte) (p : Status) :
    sbcWith dec a m p = adcWith (fun _ _ c => dec a m c) a (m ^^^ 0xFF) p := rfl

/-- ADC passes the stored Break flag through, in both its branches. -/
theorem adcWith_break (dec : Byte → Byte → Bool → DecimalResult) (a m : Byte) (p : Status) (b : Bool) :
    adcWith dec a m { p with b := b } = ((adcWith dec a m p).1, { (adcWith dec a m p).2 with b := b }) := by
  obtain ⟨_, _, _, d, _, _, _⟩ := p
  cases d <;> rfl

/-- No effect reads the cycle counter. -/
theorem kindEffect_withCycles (m : Mnemonic) (o : Operand) (b : Byte) (w : Word) (n : Nat) (s : State) :
    kindEffect (kindOf m o) b w (withCycles n s) = withCycles n (kindEffect (kindOf m o) b w s) := by
  cases m
  case asl | lsr | rol | ror => cases o <;> rfl
  all_goals rfl

/-- No effect reads the stored Break flag. -/
theorem kindEffect_withBreak (m : Mnemonic) (o : Operand) (b : Byte) (w : Word) (v : Bool) (s : State) :
    kindEffect (kindOf m o) b w (withBreak v s) = withBreak v (kindEffect (kindOf m o) b w s) := by
  cases m
  case asl | lsr | rol | ror => cases o <;> rfl
  case adc | sbc =>
    simp only [kindOf, kindEffect, arithEffect, adc, sbc, sbcWith_eq_adcWith, withBreak, adcWith_break]
    rfl
  all_goals rfl

/-- Two states that agree in all that an operand and a cost depend on: `A`, `X`, `Y`, `PC`, memory and the flags
that branches test. -/
structure SameInputs (s t : State) : Prop where
  a : t.a = s.a
  x : t.x = s.x
  y : t.y = s.y
  pc : t.pc = s.pc
  mem : t.mem = s.mem
  n : t.p.n = s.p.n
  v : t.p.v = s.p.v
  z : t.p.z = s.p.z
  c : t.p.c = s.p.c

theorem operandOf_congr {s t : State} (h : SameInputs s t) (i : Instr) : operandOf i t = operandOf i s := by
  unfold operandOf
  cases i.operand <;>
    simp [resolve, resolveIn, indirectTarget, indexed, readWord, readZp16, readByte, h.x, h.y, h.pc, h.mem]

theorem readOperand_congr {s t : State} (h : SameInputs s t) (i : Instr) : readOperand i t = readOperand i s := by
  unfold readOperand
  rw [operandOf_congr h]
  cases operandOf i s <;> simp [value, readByte, h.a, h.mem]

theorem cost_congr {s t : State} (h : SameInputs s t) (i : Instr) : cost i t = cost i s := by
  have ht : taken i t = taken i s := by simp only [taken, h.n, h.v, h.z, h.c]
  unfold cost
  rw [operandOf_congr h, ht]

/-- An update that no operand, cost or effect reads passes through an instruction. -/
theorem exec_of_commutes {g : State → State} {i : Instr} {s : State} (hin : SameInputs s (g s))
    (hpast : past i.operand (g s) = g (past i.operand s))
    (heff : ∀ b w t, kindEffect (kindOf i.mnemonic i.operand) b w (g t)
      = g (kindEffect (kindOf i.mnemonic i.operand) b w t)) :
    exec i (g s) = .next (retire (cost i s) (g (effectOf i s))) := by
  rw [exec_eq_effect, cost_congr hin, effectOf, readOperand_congr hin, operandOf_congr hin, hpast, heff]
  rfl

/-! ## What an instruction leaves unchanged -/

/-- ADC leaves D and I alone in both its branches. -/
theorem adcWith_di (dec : Byte → Byte → Bool → DecimalResult) (a m : Byte) (p : Status) :
    (adcWith dec a m p).2.d = p.d ∧ (adcWith dec a m p).2.i = p.i := by
  unfold adcWith
  split <;> exact ⟨rfl, rfl⟩

/-! A field of the state after the effect of a mnemonic outside the list of its writers. `simp at h` drops the
mnemonics of the list; the state is taken apart so that `rfl` compares the one field and not whole states. -/

section Frames

variable {m : Mnemonic} (o : Operand) (b : Byte) (w : Word) (s : State)

/-- No effect writes the cycle counter, since it does not read it. -/
theorem kindEffect_cycles : (kindEffect (kindOf m o) b w s).cycles = s.cycles :=
  (congrArg State.cycles (kindEffect_withCycles m o b w s.cycles s) :)

/-- No effect writes the stored Break flag (decision D5), since it does not read it. -/
theorem kindEffect_b : (kindEffect (kindOf m o) b w s).p.b = s.p.b :=
  (congrArg (fun t => t.p.b) (kindEffect_withBreak m o b w s.p.b s) :)

theorem kindEffect_a (h : m ∉ [.lda, .txa, .tya, .pla, .and, .ora, .eor, .adc, .sbc]) (ho : o ≠ .acc) :
    (kindEffect (kindOf m o) b w s).a = s.a := by
  cases s
  cases m <;> simp at h
  case asl | lsr | rol | ror =>
    cases o
    case acc => exact absurd rfl ho
    all_goals rfl
  all_goals rfl

theorem kindEffect_x (h : m ∉ [.ldx, .tax, .tsx, .inx, .dex]) : (kindEffect (kindOf m o) b w s).x = s.x := by
  cases s
  cases m <;> simp at h
  case asl | lsr | rol | ror => cases o <;> rfl
  all_goals rfl

theorem kindEffect_y (h : m ∉ [.ldy, .tay, .iny, .dey]) : (kindEffect (kindOf m o) b w s).y = s.y := by
  cases s
  cases m <;> simp at h
  case asl | lsr | rol | ror => cases o <;> rfl
  all_goals rfl

theorem kindEffect_sp (h : m ∉ [.txs, .pha, .php, .pla, .plp, .jsr, .rts, .brk, .rti]) :
    (kindEffect (kindOf m o) b w s).sp = s.sp := by
  cases s
  cases m <;> simp at h
  case asl | lsr | rol | ror => cases o <;> rfl
  all_goals rfl

theorem kindEffect_nz (h : m ∉ [.lda, .ldx, .ldy, .tax, .tay, .txa, .tya, .tsx, .pla, .and, .ora, .eor, .inc, .dec,
      .inx, .iny, .dex, .dey, .adc, .sbc, .cmp, .cpx, .cpy, .asl, .lsr, .rol, .ror, .bit, .plp, .rti]) :
    (kindEffect (kindOf m o) b w s).p.n = s.p.n ∧ (kindEffect (kindOf m o) b w s).p.z = s.p.z := by
  cases s
  cases m <;> simp at h
  all_goals exact ⟨rfl, rfl⟩

theorem kindEffect_v (h : m ∉ [.adc, .sbc, .bit, .clv, .plp, .rti]) :
    (kindEffect (kindOf m o) b w s).p.v = s.p.v := by
  cases s
  cases m <;> simp at h
  case asl | lsr | rol | ror => cases o <;> rfl
  all_goals rfl

theorem kindEffect_c (h : m ∉ [.adc, .sbc, .cmp, .cpx, .cpy, .asl, .lsr, .rol, .ror, .clc, .sec, .plp, .rti]) :
    (kindEffect (kindOf m o) b w s).p.c = s.p.c := by
  cases s
  cases m <;> simp at h
  all_goals rfl

theorem kindEffect_d (h : m ∉ [.cld, .sed, .plp, .rti]) : (kindEffect (kindOf m o) b w s).p.d = s.p.d := by
  cases s
  cases m <;> simp at h
  case asl | lsr | rol | ror => cases o <;> rfl
  case adc | sbc => simp [kindOf, kindEffect, arithEffect, adc, sbc, sbcWith_eq_adcWith, adcWith_di]
  all_goals rfl

theorem kindEffect_i (h : m ∉ [.cli, .sei, .plp, .rti, .brk]) : (kindEffect (kindOf m o) b w s).p.i = s.p.i := by
  cases s
  cases m <;> simp at h
  case asl | lsr | rol | ror => cases o <;> rfl
  case adc | sbc => simp [kindOf, kindEffect, arithEffect, adc, sbc, sbcWith_eq_adcWith, adcWith_di]
  all_goals rfl

/-- An effect writes memory through the memory port alone, so it keeps the canonical form (20_memory.md R42). -/
theorem kindEffect_mem_wf (h : Memory.wf s.mem = true) : Memory.wf (kindEffect (kindOf m o) b w s).mem = true := by
  cases m
  case sta | stx | sty | inc | dec => exact writeByte_mem_wf h _ _
  case asl | lsr | rol | ror =>
    cases o
    case acc => cases s; exact h
    all_goals exact writeByte_mem_wf h _ _
  case pha | php => exact push8_mem_wf h _
  case jsr => exact push16_mem_wf h _
  case brk => exact interruptEntry_mem_wf (s := advancePc 1 s) h irqVector true
  all_goals cases s; exact h

end Frames

/-- The effect of an instruction that stores and pushes nothing leaves memory as it is. -/
theorem effectOf_mem {i : Instr} (s : State) (hs : storesByte i = false) (hp : pushCount i = 0) :
    (effectOf i s).mem = s.mem := by
  unfold storesByte at hs
  unfold pushCount at hp
  unfold effectOf
  generalize i.mnemonic = m at *
  cases m <;> simp at hs hp
  case asl | lsr | rol | ror =>
    cases ho : i.operand
    case acc => rfl
    all_goals rw [ho] at hs; cases hs
  all_goals rfl

end Sys2Proof.Proofs
end

section
/-! The statements on the state (spec/10_state.md): which registers, flags and bytes an instruction leaves alone,
what it does not read, and what every host operation keeps. -/

namespace Sys2Proof.Proofs

open Machine Safety Laws

/-! ## One instruction -/

/-- Settles O55: each register is left alone by every effect but those of its writers. -/
theorem registersChangeOnlyByTheirWriters : Obligations.RegistersChangeOnlyByTheirWriters := by
  intro i s t h
  obtain rfl := eq_of_exec h
  simp only [retire_a, retire_x, retire_y, retire_sp, effectOf]
  exact ⟨kindEffect_a _ _ _ _, kindEffect_x _ _ _ _, kindEffect_y _ _ _ _, kindEffect_sp _ _ _ _⟩

/-- Settles O56: each flag is left alone by every effect but those of its writers, B by all. -/
theorem flagsChangeOnlyByTheirWriters : Obligations.FlagsChangeOnlyByTheirWriters := by
  intro i s t h
  obtain rfl := eq_of_exec h
  simp only [retire_p, effectOf]
  exact ⟨kindEffect_nz _ _ _ _, kindEffect_v _ _ _ _, kindEffect_c _ _ _ _, kindEffect_d _ _ _ _,
    kindEffect_i _ _ _ _, kindEffect_b _ _ _ _⟩

/-- Settles O53: an effect that stores and pushes nothing leaves the memory itself. -/
theorem instructionsThatStoreNothingLeaveMemory : Obligations.InstructionsThatStoreNothingLeaveMemory := by
  intro i s t hs hp h a
  obtain rfl := eq_of_exec h
  exact congrArg (memRead · a.toNat) (effectOf_mem s hs hp)

/-- The cycles an instruction charges are those of its row, whatever its effect. -/
theorem cycles_of_exec {i : Instr} {s t : State} (h : exec i s = .next t) : t.cycles = s.cycles + cost i s := by
  rw [eq_of_exec h, retire_cycles, effectOf, kindEffect_cycles, past_cycles]

/-- No instruction writes the stored Break flag (decision D5). -/
theorem break_of_exec {i : Instr} {s t : State} (h : exec i s = .next t) : t.p.b = s.p.b := by
  rw [eq_of_exec h, retire_p, effectOf, kindEffect_b, past_p]

/-- Settles O17: another cycle count passes through operand, cost and effect. -/
theorem noInstructionDependsOnTheCycleCounter : Obligations.NoInstructionDependsOnTheCycleCounter := by
  intro i s t n h
  have hc := cycles_of_exec h
  have hn : exec i (withCycles n s) = .next (retire (cost i s) (withCycles n (effectOf i s))) :=
    exec_of_commutes (g := withCycles n) ⟨rfl, rfl, rfl, rfl, rfl, rfl, rfl, rfl, rfl⟩ rfl
      fun _ _ _ => kindEffect_withCycles ..
  refine ⟨by omega, hn.trans ?_⟩
  rw [hc, Nat.add_sub_cancel_left, eq_of_exec h]
  rfl

/-- Settles O18: another Break flag passes through operand, cost and effect. -/
theorem noInstructionReadsTheBreakFlag : Obligations.NoInstructionReadsTheBreakFlag := by
  intro i s t b h
  refine ⟨break_of_exec h, ?_⟩
  obtain rfl := eq_of_exec h
  exact exec_of_commutes (g := withBreak b) ⟨rfl, rfl, rfl, rfl, rfl, rfl, rfl, rfl, rfl⟩ rfl
    fun _ _ _ => kindEffect_withBreak ..

/-! ## One step -/

/-- Every row of the opcode table has base cycles. -/
theorem tableRow_cycles_pos (i : Instr) : 0 < (tableRow i).cycles := by
  cases i <;> exact Nat.succ_pos _

theorem cost_pos (i : Instr) (s : State) : 0 < cost i s := by
  have := tableRow_cycles_pos i
  rw [cost_of_row s (lookup_base i)]
  omega

/-- In Ready and Running the decoded instruction runs. -/
theorem step_of_fetchInstr {s : State} {i : Instr} (hl : Live s) (hi : fetchInstr s = .ok i) : step s = exec i s :=
  (stepIn_of_fetch hl rfl hi).trans (execIn_standard i s)

/-- In Ready and Running a step completes or faults. -/
theorem step_of_live {s : State} (hl : Live s) : (∃ t, step s = .next t) ∨ ∃ f, step s = .fault f := by
  cases hf : fetchInstr s with
  | ok i => exact .inl ⟨_, (step_of_fetchInstr hl hf).trans (exec_eq_effect i s)⟩
  | error e => exact .inr ⟨decodeFault e s, by rw [step, stepIn_base hl rfl, hf]⟩

/-- Settles O58: the cycles of the second event are the difference of the counters, which is the cost. -/
theorem stepEmitsTwoEventsWhenItCompletes : Obligations.StepEmitsTwoEventsWhenItCompletes := by
  refine fun s => ⟨fun i hl hi => ?_, fun hn => ?_⟩
  · have hx := exec_eq_effect i s
    have hs := (step_of_fetchInstr hl hi).trans hx
    refine ⟨_, hs, ?_⟩
    rw [stepEvents_eq, hs]
    simp only [cycles_of_exec hx, Nat.add_sub_cancel_left]
    rfl
  · rw [stepEvents_eq]
    cases h : step s with
    | next t => exact absurd h (hn t)
    | fault f => rfl
    | refused q => rfl

/-- What every host operation but `reset` keeps of a state: the Break flag, the cycles counted so far, and that
there was a first reset. -/
structure Later (s t : State) : Prop where
  b : t.p.b = s.p.b
  cycles : s.cycles ≤ t.cycles
  life : s.life ≠ .uninitialized → t.life ≠ .uninitialized

theorem Later.refl (s : State) : Later s s := ⟨rfl, Nat.le_refl _, id⟩

/-- A completed step is Running, at more cycles and with the same Break flag. -/
theorem step_next_fields {s t : State} (h : step s = .next t) :
    t.life = .running ∧ s.cycles < t.cycles ∧ t.p.b = s.p.b := by
  obtain ⟨-, i, -, hx⟩ := step_next h
  have hc := cycles_of_exec hx
  have hp := cost_pos i s
  exact ⟨eq_of_exec hx ▸ rfl, by omega, break_of_exec hx⟩

/-- A completed step keeps the canonical form of memory. -/
theorem step_mem_wf {s t : State} (h : step s = .next t) (hw : Memory.wf s.mem = true) : Memory.wf t.mem = true := by
  obtain ⟨-, i, -, hx⟩ := step_next h
  obtain rfl := eq_of_exec hx
  exact kindEffect_mem_wf _ _ _ (past i.operand s) hw

/-- Settles O12: a step can only have started after a reset, and keeps each part of the invariant. -/
theorem stepKeepsTheInvariant : Obligations.StepKeepsTheInvariant := by
  intro s t hinv h
  obtain ⟨hw, hstarted⟩ := hinv
  have hlive : s.life ≠ .uninitialized := by
    obtain ⟨hl | hl, -⟩ := step_next h <;> simp [hl]
  obtain ⟨hb, hc⟩ := hstarted hlive
  obtain ⟨hlife, hcyc, hbt⟩ := step_next_fields h
  exact ⟨⟨step_mem_wf h hw, fun _ => ⟨hbt.trans hb, by omega⟩⟩, hlife⟩

/-! ## Host operations -/

/-- A guarded operation is done or changes no state. -/
theorem replyOf_guarded (p : Params) (f : State → State) (s : State) :
    (replyOf p (guarded s f) s).state = s ∨ (replyOf p (guarded s f) s).state = f s := by
  unfold guarded
  cases s.life
  case uninitialized | faulted => exact .inl rfl
  case ready | running => exact .inr rfl

/-- An IRQ changes nothing or enters its handler. -/
theorem hostOp_interrupt_state (s : State) :
    (hostOp .interrupt s).state = s ∨
      (hostOp .interrupt s).state = tick entryCycles (interruptEntry irqVector false s) := by
  refine (replyOf_guarded _ _ s).elim .inl fun h => ?_
  rw [hostOp_interrupt, interrupt, h]
  exact ite_eq_or_eq ..

/-- An NMI changes nothing or enters its handler. -/
theorem hostOp_nmi_state (s : State) :
    (hostOp .nonMaskableInterrupt s).state = s ∨
      (hostOp .nonMaskableInterrupt s).state = tick entryCycles (interruptEntry nmiVector false s) :=
  replyOf_guarded _ _ s

/-- What an IRQ or NMI leaves is later: entering a handler adds cycles and sets I alone of the flags. -/
theorem later_of_entry {s t : State} {vector : Word}
    (h : t = s ∨ t = tick entryCycles (interruptEntry vector false s)) : Later s t := by
  obtain rfl | rfl := h
  · exact .refl _
  · exact ⟨by simp, by simp, by simp⟩

theorem later_of_step (s : State) : Later s (hostOp .step s).state := by
  rw [hostOp_step]
  cases hs : step s with
  | next t =>
    obtain ⟨hlife, hc, hb⟩ := step_next_fields hs
    exact ⟨hb, Nat.le_of_lt hc, by simp [replyOf, hlife]⟩
  | fault f => exact ⟨rfl, Nat.le_add_right .., by simp [replyOf]⟩
  | refused q => exact .refl s

/-- Every host operation but `reset` keeps the Break flag and the cycles counted. -/
theorem hostOp_later {op : HostOp} (h : op ≠ .reset) (s : State) : Later s (hostOp op s).state := by
  cases op with
  | reset => exact absurd rfl h
  | step => exact later_of_step s
  | interrupt => exact later_of_entry (hostOp_interrupt_state s)
  | nonMaskableInterrupt => exact later_of_entry (hostOp_nmi_state s)
  | write | writeWord => exact ⟨rfl, Nat.le_refl _, id⟩

/-- A predicate that every host operation keeps holds of every state a run leaves. -/
theorem session_keeps {P : State → Prop} (hop : ∀ op s, P s → P (hostOp op s).state) (ops : List HostOp)
    {s : State} (h : P s) : P (session ops s) := by
  induction ops generalizing s with
  | nil => exact h
  | cons op ops ih => exact ih (hop op s h)

/-- What the first reset establishes, whatever the memory: the registers have values, the Break flag is 0 and the
startup cycles are charged. -/
structure Started (s : State) : Prop where
  life : s.life ≠ .uninitialized
  b : s.p.b = false
  cycles : startupCycles ≤ s.cycles

theorem resetOp_started (s : State) : Started (resetOp s) := ⟨by simp [resetOp], rfl, Nat.le_refl _⟩

theorem hostOp_started (op : HostOp) (s : State) (h : Started s) : Started (hostOp op s).state := by
  by_cases hr : op = .reset
  · exact hr ▸ resetOp_started s
  · have hl := hostOp_later hr s
    exact ⟨hl.life h.life, hl.b.trans h.b, Nat.le_trans h.cycles hl.cycles⟩

/-- Every state of a run that begins with a reset. -/
theorem session_reset_started (ops : List HostOp) (s : State) : Started (session (.reset :: ops) s) :=
  session_keeps hostOp_started ops (resetOp_started s)

/-- Settles O14: the Break flag is part of what the reset establishes and every operation keeps. -/
theorem breakFlagIsZeroAfterAnyReset : Obligations.BreakFlagIsZeroAfterAnyReset :=
  fun ops s => (session_reset_started ops s).b

/-- Settles O15: so are the startup cycles, and the accessors are open from the first reset on. -/
theorem programCyclesNeverNegative : Obligations.ProgramCyclesNeverNegative := by
  refine ⟨rfl, fun ops s => ?_⟩
  obtain ⟨hlife, -, hc⟩ := session_reset_started ops s
  exact ⟨rfl, hc, _, accessor_ok _ hlife, rfl, Nat.sub_add_cancel hc⟩

/-- Settles O16: every operation but `reset` is later, and a completed step charges its cost. -/
theorem cyclesNeverDecreaseBetweenResets : Obligations.CyclesNeverDecreaseBetweenResets := by
  intro op s hop
  refine ⟨(hostOp_later hop s).cycles, ?_, ?_, fun t _ hs => ?_⟩
  · rintro addr v rfl
    rfl
  · rintro addr w rfl
    rfl
  · obtain ⟨-, hc, -⟩ := step_next_fields hs
    exact hc

/-- Settles O59: by what each operation leaves. -/
theorem lifecycleFollowsTheOperations : Obligations.LifecycleFollowsTheOperations := by
  refine fun s => ⟨rfl, fun hl => ?_, ?_, ?_, fun _ _ => rfl, fun _ _ => rfl⟩
  · obtain ⟨t, hs⟩ | ⟨f, hs⟩ := step_of_live hl <;> rw [hostOp_step, hs]
    · obtain ⟨hlife, -, -⟩ := step_next_fields hs
      exact .inl ⟨rfl, hlife⟩
    · exact .inr ⟨f, rfl, rfl⟩
  · obtain h | h := hostOp_interrupt_state s <;> simp only [h, tick_life, interruptEntry_life]
  · obtain h | h := hostOp_nmi_state s <;> simp only [h, tick_life, interruptEntry_life]

/-- A reset over a memory in canonical form meets the invariant. -/
theorem inv_resetOp {s : State} (h : Memory.wf s.mem = true) : Inv (resetOp s) :=
  ⟨h, fun _ => ⟨rfl, Nat.le_refl _⟩⟩

/-- Settles O11: a launched machine is Uninitialized over its image, and a reset keeps the image. -/
theorem resetStateMeetsTheInvariant : Obligations.ResetStateMeetsTheInvariant :=
  ⟨rfl, rfl, inv_resetOp (s := State.created) rfl, fun _ h =>
    ⟨⟨h, fun hl => absurd rfl hl⟩, inv_resetOp h, rfl⟩⟩

end Sys2Proof.Proofs
end

section
/-! The rules of the memory port, of words and of the stack in arithmetic (spec/20_memory.md), and the status byte
that PHP and BRK push. -/

namespace Sys2Proof.Proofs

open Machine Safety

/-! ## Words and pointers -/

theorem hiByte_eq_ofNat (w : Word) : hiByte w = BitVec.ofNat 8 (w.toNat / 256) := by
  rw [← hiByte_toNat, BitVec.ofNat_toNat, BitVec.setWidth_eq]

theorem loByte_eq_ofNat (w : Word) : loByte w = BitVec.ofNat 8 (w.toNat % 256) := by
  rw [← loByte_toNat, BitVec.ofNat_toNat, BitVec.setWidth_eq]

/-- The next address, mod 65536 (20_memory.md R43). -/
theorem readByte_add_one (s : State) (addr : Word) :
    readByte s (addr + 1) = memRead s.mem ((addr.toNat + 1) % 65536) := by
  rw [readByte, BitVec.toNat_add]
  rfl

/-- A byte of page zero (20_memory.md R44). -/
theorem readByte_zext16 (s : State) (z : Byte) : readByte s (zext16 z) = memRead s.mem z.toNat := by
  rw [readByte, zext16_toNat]

/-- Every byte of memory after `write_word` (20_memory.md R45). -/
theorem readByte_writeWord (s : State) (addr v other : Word) :
    readByte (writeWord s addr v) other =
      if other = addr + 1 then hiByte v else if other = addr then loByte v else readByte s other := by
  rw [writeWord, readByte_writeByte, readByte_writeByte]

/-- A word reads back where it was written, also where it wraps at $FFFF. -/
theorem readWord_writeWord (s : State) (addr v : Word) : readWord (writeWord s addr v) addr = v := by
  rw [readWord, readByte_writeWord, readByte_writeWord, if_pos rfl, if_neg (add_one_ne addr).symm, if_pos rfl,
    wordOf_hi_lo]

/-! ## The stack page -/

/-- The slot `k` below the stack pointer, as the model addresses it (20_memory.md R47, R49). -/
theorem stackSlot_eq_stackAddr (s : State) {k : Nat} (hk : k ≤ 256) :
    stackSlot s k = stackAddr (s.sp - BitVec.ofNat 8 k) := by
  apply BitVec.eq_of_toNat_eq
  rw [stackAddr_toNat, stackSlot, BitVec.toNat_ofNat, BitVec.toNat_sub, BitVec.toNat_ofNat]
  omega

theorem stackSlot_zero (s : State) : stackSlot s 0 = stackAddr s.sp := by
  simp [stackSlot_eq_stackAddr]

theorem stackSlot_one (s : State) : stackSlot s 1 = stackAddr (s.sp - 1) := by
  simp [stackSlot_eq_stackAddr]

theorem stackSlot_two (s : State) : stackSlot s 2 = stackAddr (s.sp - 1 - 1) := by
  rw [stackSlot_eq_stackAddr _ (by decide), BitVec.sub_sub]
  rfl

/-- The byte `k` above the stack pointer, as the model addresses it (20_memory.md R48, R49). -/
theorem stackByte_eq_readByte (s : State) (k : Nat) :
    stackByte s k = readByte s (stackAddr (s.sp + BitVec.ofNat 8 k)) := by
  rw [readByte, stackAddr_toNat, stackByte, BitVec.toNat_add, BitVec.toNat_ofNat, Nat.add_mod_mod]

/-- A pull gives back the byte pushed, also across the wrap of the stack pointer (20_memory.md R47, R48). -/
@[simp] theorem pulled8_push8 (s : State) (v : Byte) : pulled8 (push8 s v) = v := by
  rw [pulled8, readByte_push8, push8_sp, BitVec.sub_add_cancel, if_pos rfl]

/-- A pull in the instruction after a push: only memory, `PC`, `cycles` and `life` show that both ran. -/
theorem pull8_after_push8 (s : State) (v : Byte) (n : Nat) :
    pull8 (advancePc 1 (retire n (push8 (advancePc 1 s) v))) =
      { s with pc := s.pc + 2, cycles := s.cycles + n, life := .running, mem := (push8 s v).mem } := by
  have hsp : s.sp - 1 + 1 = s.sp := BitVec.sub_add_cancel _ _
  have hpc : s.pc + 1 + 1 = s.pc + 2 := BitVec.add_assoc _ _ _
  rw [← hsp, ← hpc]
  rfl

@[simp] theorem pulled8_retire (n : Nat) (s : State) : pulled8 (retire n s) = pulled8 s := rfl

/-! ## The status byte and N, Z -/

theorem getElem_flagBit (f : Bool) (k j : Nat) (hj : j < 8) : (flagBit f k)[j] = (f && decide (j = k)) := by
  cases f with
  | false => simp [flagBit]
  | true =>
    have hk : (!decide (j < k) && decide (j - k = 0)) = decide (j = k) := by
      by_cases h : j = k <;> simp [h]
      omega
    simp [flagBit, hk]

/-- The status byte as a number (10_state.md R16). -/
theorem pByte_toNat (p : Status) (b : Bool) : (pByte p b).toNat = statusNat p b := by
  obtain ⟨n, v, b', d, i, z, c⟩ := p
  revert n v b' b d i z c
  decide +kernel

theorem pByte_eq_ofNat (p : Status) (b : Bool) : pByte p b = BitVec.ofNat 8 (statusNat p b) := by
  rw [← pByte_toNat, BitVec.ofNat_toNat, BitVec.setWidth_eq]

/-- Loading the status byte pushed gives every flag but B (10_state.md R16, R17). -/
theorem pLoad_pByte (p q : Status) (b : Bool) : pLoad p (pByte q b) = { q with b := p.b } := by
  simp [pLoad, pByte, getElem_flagBit]

theorem setNZ_eq_withNZ (p : Status) (r : Byte) : setNZ p r = withNZ p r := by
  have hz : (r == 0) = decide (r.toNat = 0) := by
    rw [Bool.eq_iff_iff, beq_iff_eq, decide_eq_true_iff, ← BitVec.toNat_inj]
    rfl
  rw [setNZ, withNZ, bit7_eq, hz]

/-! ## The bytes of the read-modify-write forms, in arithmetic (spec/44_incdec_shift.md R150 to R159) -/

theorem add_one_eq_ofNat (m : Byte) : m + 1 = BitVec.ofNat 8 ((m.toNat + 1) % 256) := by
  apply BitVec.eq_of_toNat_eq
  simp

theorem sub_one_eq_ofNat (m : Byte) : m - 1 = BitVec.ofNat 8 ((m.toNat + 255) % 256) := by
  apply BitVec.eq_of_toNat_eq
  simp [BitVec.toNat_sub, Nat.add_comm]

theorem asl_fst (m : Byte) (c : Bool) : (asl m c).1 = BitVec.ofNat 8 (2 * m.toNat % 256) := by
  apply BitVec.eq_of_toNat_eq
  simp [asl, Nat.shiftLeft_eq, Nat.mul_comm]

theorem lsr_fst (m : Byte) (c : Bool) : (lsr m c).1 = BitVec.ofNat 8 (m.toNat / 2) := by
  apply BitVec.eq_of_toNat_eq
  simp [lsr, Nat.shiftRight_eq_div_pow]
  omega

theorem rol_fst : ∀ (m : Byte) (c : Bool), (rol m c).1 = BitVec.ofNat 8 ((2 * m.toNat + carryNat c) % 256) := by
  decide +kernel

theorem ror_fst : ∀ (m : Byte) (c : Bool), (ror m c).1 = BitVec.ofNat 8 (m.toNat / 2 + 128 * carryNat c) := by
  decide +kernel

/-! ## The stack instructions -/

theorem exec_pha (s : State) : exec .pha s = .next (retire 3 (push8 (advancePc 1 s) s.a)) := rfl

theorem exec_php (s : State) : exec .php s = .next (retire 3 (push8 (advancePc 1 s) (pByte s.p true))) := rfl

theorem exec_pla (s : State) :
    exec .pla s = .next (retire 4 (((pull8 (advancePc 1 s)).setA (pulled8 s)).setP (setNZ s.p (pulled8 s)))) := rfl

theorem exec_plp (s : State) :
    exec .plp s = .next (retire 4 ((pull8 (advancePc 1 s)).setP (pLoad s.p (pulled8 s)))) := rfl

end Sys2Proof.Proofs
end

section
/-! Every byte of memory after an instruction: the bytes it stores, as the rule of its mnemonic gives them, or else
the byte before (spec/20_memory.md R47, R51, R55). -/

namespace Sys2Proof.Proofs

open Machine Safety Laws

/-! ## Which instructions store, and what -/

/-- The byte that the first store to `a` in the list `ws` stores, or else `d`. -/
def firstStored (ws : List (Word × Byte)) (d : Byte) (a : Word) : Byte :=
  match ws.find? fun w => w.1 = a with
  | some w => w.2
  | none => d

theorem firstStored_nil (d : Byte) (a : Word) : firstStored [] d a = d := rfl

theorem firstStored_cons (w : Word) (v : Byte) (ws : List (Word × Byte)) (d : Byte) (a : Word) :
    firstStored ((w, v) :: ws) d a = if a = w then v else firstStored ws d a := by
  unfold firstStored
  by_cases h : a = w
  · simp [h]
  · simp [h, Ne.symm h]

theorem byteAfter_eq_firstStored (i : Instr) (s : State) (a : Word) :
    byteAfter i s a = firstStored (storedBytes i s) (readByte s a) a := rfl

theorem shiftKind_eq_rmw_iff {o : Operand} {g : Byte → Bool → Byte × Bool} {f : Byte → Status → Byte × Status} :
    shiftKind o g = .rmw f ↔ o ≠ .acc ∧ f = shiftByte g := by
  unfold shiftKind
  split
  · simp [*]
  · simp [*, eq_comm]

/-- An instruction that stores runs the write or the read-modify-write shape. -/
theorem kindOf_of_storesByte {i : Instr} (h : storesByte i = true) :
    (∃ r, kindOf i.mnemonic i.operand = .write r) ∨ ∃ f, kindOf i.mnemonic i.operand = .rmw f := by
  unfold storesByte at h
  generalize i.mnemonic = m at *
  cases m <;> simp at h
  case sta | stx | sty => exact .inl ⟨_, rfl⟩
  case inc | dec => exact .inr ⟨_, rfl⟩
  case asl | lsr | rol | ror => exact .inr ⟨_, shiftKind_eq_rmw_iff.mpr ⟨mt (congrArg Operand.mode) h, rfl⟩⟩

/-- The instructions that push. -/
theorem pushCount_ne_zero_iff {i : Instr} :
    pushCount i ≠ 0 ↔ i = .pha ∨ i = .php ∨ (∃ w, i = .jsr w) ∨ i = .brk := by
  constructor
  · intro h
    cases i
    case pha | php | jsr | brk => simp
    all_goals exact absurd rfl h
  · rintro (rfl | rfl | ⟨w, rfl⟩ | rfl) <;> exact Nat.succ_ne_zero _

/-- A store stores its register (41_load_store_transfer.md R103 to R105). -/
theorem storedBytes_write {i : Instr} {r : State → Byte} {s : State} {ea : Word}
    (h : kindOf i.mnemonic i.operand = .write r) (ht : targetOf i s = .ok ea) :
    storedBytes i s = [(ea, r (past i.operand s))] := by
  unfold storedBytes
  rw [ht]
  generalize i.mnemonic = m at h
  cases m
  case sta | stx | sty => cases h; rfl
  case asl | lsr | rol | ror => cases ho : i.operand <;> rw [ho] at h <;> cases h
  all_goals cases h

/-- A read-modify-write form stores the result of its function on the byte at its address, once
(44_incdec_shift.md R160, decision D13). -/
theorem storedBytes_rmw {i : Instr} {f : Byte → Status → Byte × Status} {s : State} {ea : Word}
    (h : kindOf i.mnemonic i.operand = .rmw f) (ht : targetOf i s = .ok ea) :
    storedBytes i s = [(ea, (f (readByte s ea) s.p).1)] := by
  unfold storedBytes
  rw [ht]
  generalize i.mnemonic = m at h
  cases m
  case inc => cases h; simp only [incByte, add_one_eq_ofNat]
  case dec => cases h; simp only [decByte, sub_one_eq_ofNat]
  case asl => obtain ⟨-, rfl⟩ := shiftKind_eq_rmw_iff.mp h; simp only [shiftByte, asl_fst]
  case lsr => obtain ⟨-, rfl⟩ := shiftKind_eq_rmw_iff.mp h; simp only [shiftByte, lsr_fst]
  case rol => obtain ⟨-, rfl⟩ := shiftKind_eq_rmw_iff.mp h; simp only [shiftByte, rol_fst]
  case ror => obtain ⟨-, rfl⟩ := shiftKind_eq_rmw_iff.mp h; simp only [shiftByte, ror_fst]
  all_goals cases h

/-- An accumulator form has no address to store to. -/
theorem targetOf_acc {i : Instr} (s : State) (h : i.operand.mode = .acc) :
    targetOf i s = .error .invalidAddressingModeUse := by
  unfold targetOf operandOf
  cases ho : i.operand <;> rw [ho] at h <;> cases h
  rfl

/-- An instruction that stores and pushes nothing has no stored bytes. -/
theorem storedBytes_eq_nil {i : Instr} (s : State) (hs : storesByte i = false) (hp : pushCount i = 0) :
    storedBytes i s = [] := by
  unfold storesByte at hs
  unfold pushCount at hp
  unfold storedBytes
  generalize i.mnemonic = m at *
  cases m <;> simp at hs hp
  case asl | lsr | rol | ror => rw [targetOf_acc s hs]
  all_goals rfl

/-! ## The bytes pushed, at the locations the model writes -/

theorem hiByte_add_two (w : Word) : hiByte (w + 2) = BitVec.ofNat 8 ((w.toNat + 2) % 65536 / 256) := by
  rw [hiByte_eq_ofNat, BitVec.toNat_add]
  rfl

theorem loByte_add_two (w : Word) : loByte (w + 2) = BitVec.ofNat 8 ((w.toNat + 2) % 256) := by
  rw [loByte_eq_ofNat, BitVec.toNat_add]
  exact congrArg _ (Nat.mod_mod_of_dvd _ (by decide))

theorem storedBytes_pha (s : State) : storedBytes .pha s = [(stackAddr s.sp, s.a)] := by
  rw [← stackSlot_zero]
  rfl

theorem storedBytes_php (s : State) : storedBytes .php s = [(stackAddr s.sp, pByte s.p true)] := by
  rw [← stackSlot_zero, pByte_eq_ofNat]
  rfl

/-- JSR pushes the address of its own last byte (decision D20). -/
theorem storedBytes_jsr (w : Word) (s : State) : storedBytes (.jsr w) s =
    [(stackAddr s.sp, hiByte (s.pc + 2)), (stackAddr (s.sp - 1), loByte (s.pc + 2))] := by
  rw [← stackSlot_zero, ← stackSlot_one, hiByte_add_two, loByte_add_two]
  rfl

theorem storedBytes_brk (s : State) : storedBytes .brk s =
    [(stackAddr s.sp, hiByte (s.pc + 2)), (stackAddr (s.sp - 1), loByte (s.pc + 2)),
     (stackAddr (s.sp - 1 - 1), pByte s.p true)] := by
  rw [← stackSlot_zero, ← stackSlot_one, ← stackSlot_two, hiByte_add_two, loByte_add_two, pByte_eq_ofNat]
  rfl

/-! ## Every byte after an instruction -/

@[simp] theorem readByte_retire (n : Nat) (s : State) (a : Word) : readByte (retire n s) a = readByte s a := rfl
@[simp] theorem readByte_past (o : Operand) (s : State) (a : Word) : readByte (past o s) a = readByte s a := rfl
@[simp] theorem readByte_advancePc (n : Nat) (s : State) (a : Word) : readByte (advancePc n s) a = readByte s a := rfl
@[simp] theorem readByte_setPc (s : State) (w a : Word) : readByte (s.setPc w) a = readByte s a := rfl

theorem readByte_after_write {i : Instr} {r : State → Byte} (s : State)
    (h : kindOf i.mnemonic i.operand = .write r) (a : Word) : readByte (effectOf i s) a = byteAfter i s a := by
  obtain ⟨ea, hea, -⟩ := exec_write s h
  rw [byteAfter_eq_firstStored, storedBytes_write h hea, firstStored_cons, effectOf, h, opndAddr_of_addr hea]
  exact readByte_writeByte ..

theorem readByte_after_rmw {i : Instr} {f : Byte → Status → Byte × Status} (s : State)
    (h : kindOf i.mnemonic i.operand = .rmw f) (a : Word) : readByte (effectOf i s) a = byteAfter i s a := by
  obtain ⟨ea, hea, -⟩ := exec_rmw s h
  rw [byteAfter_eq_firstStored, storedBytes_rmw h hea, firstStored_cons, effectOf, h, opndAddr_of_addr hea]
  exact readByte_writeByte ..

theorem readByte_after_push {i : Instr} {s : State} {v : Byte} (he : effectOf i s = push8 (past i.operand s) v)
    (hb : storedBytes i s = [(stackAddr s.sp, v)]) (a : Word) : readByte (effectOf i s) a = byteAfter i s a := by
  rw [byteAfter_eq_firstStored, hb, firstStored_cons, he, readByte_push8, readByte_past, past_sp, firstStored_nil]

/-- Different stack pointers name different locations. -/
theorem ne_of_eq_stackAddr {x y : Byte} (h : x ≠ y) {a : Word} (ha : a = stackAddr x) : a ≠ stackAddr y := by
  rwa [ha, ne_eq, stackAddr_inj]

theorem readByte_after_jsr (w : Word) (s : State) (a : Word) :
    readByte (effectOf (.jsr w) s) a = byteAfter (.jsr w) s a := by
  obtain ⟨h10, -, -⟩ := sub_ne s.sp
  have hpc : s.pc + 3 - 1 = s.pc + 2 := by
    rw [BitVec.sub_eq_iff_eq_add, BitVec.add_assoc]
    rfl
  have he : effectOf (.jsr w) s = (push16 (past (.abs w) s) (s.pc + 3 - 1)).setPc w := rfl
  rw [he, hpc, readByte_setPc, readByte_push16, readByte_past, past_sp,
    ite_ite_comm (h := ne_of_eq_stackAddr h10), byteAfter_eq_firstStored, storedBytes_jsr]
  simp only [firstStored_cons, firstStored_nil]

theorem readByte_after_brk (s : State) (a : Word) : readByte (effectOf .brk s) a = byteAfter .brk s a := by
  obtain ⟨h10, h20, h21⟩ := sub_ne s.sp
  have hpc : (advancePc 1 (past .imp s)).pc = s.pc + 2 := BitVec.add_assoc ..
  have he : effectOf .brk s = interruptEntry irqVector true (advancePc 1 (past .imp s)) := rfl
  rw [he, readByte_interruptEntry, hpc, readByte_advancePc, readByte_past, advancePc_sp, past_sp, advancePc_p, past_p,
    ite_ite_comm (h := ne_of_eq_stackAddr h10), ite_ite_comm (h := ne_of_eq_stackAddr h20),
    ite_ite_comm (h := ne_of_eq_stackAddr h21), byteAfter_eq_firstStored, storedBytes_brk]
  simp only [firstStored_cons, firstStored_nil]

/-- Every byte after an effect, by what the instruction does to memory: a store, a push, or nothing. -/
theorem readByte_effectOf (i : Instr) (s : State) (a : Word) : readByte (effectOf i s) a = byteAfter i s a := by
  cases hs : storesByte i with
  | true =>
    obtain ⟨r, h⟩ | ⟨f, h⟩ := kindOf_of_storesByte hs
    · exact readByte_after_write s h a
    · exact readByte_after_rmw s h a
  | false =>
    by_cases hp : pushCount i = 0
    · rw [byteAfter_eq_firstStored, storedBytes_eq_nil s hs hp, firstStored_nil, readByte, effectOf_mem s hs hp,
        readByte]
    · obtain rfl | rfl | ⟨w, rfl⟩ | rfl := pushCount_ne_zero_iff.mp hp
      · exact readByte_after_push rfl (storedBytes_pha s) a
      · exact readByte_after_push rfl (storedBytes_php s) a
      · exact readByte_after_jsr w s a
      · exact readByte_after_brk s a

/-- Every byte after a completed instruction. -/
theorem readByte_of_exec {i : Instr} {s t : State} (h : exec i s = .next t) (a : Word) :
    readByte t a = byteAfter i s a := by
  rw [eq_of_exec h, readByte_retire, readByte_effectOf]

/-- A completed instruction leaves a machine that can step. -/
theorem live_of_exec {i : Instr} {s t : State} (h : exec i s = .next t) : Live t := by
  rw [eq_of_exec h]
  exact .inr rfl

end Sys2Proof.Proofs
end

section
/-! The statements on memory (spec/20_memory.md). -/

namespace Sys2Proof.Proofs

open Machine Safety Laws

/-- Settles O20: reading after a write decides the byte, and the host's writes are the memory port's. -/
theorem everyAddressHoldsTheByteLastWritten : Obligations.EveryAddressHoldsTheByteLastWritten := by
  refine fun s addr other v => ⟨readByte_writeByte s addr other v, rfl, rfl, fun w => ?_⟩
  rw [hostOp_writeWord, writeWord, hiByte_eq_ofNat, loByte_eq_ofNat]

/-- Settles O21: by what a word reads and what `write_word` leaves at every address. -/
theorem wordAccessesAreLittleEndianAndWrap : Obligations.WordAccessesAreLittleEndianAndWrap := by
  refine fun s addr v z => ⟨?_, ?_, readWord_writeWord s addr v, fun other ha ha1 => ?_⟩
  · rw [readWord_toNat, readByte_add_one]
    rfl
  · rw [readZp16_toNat, readByte_zext16, readByte_zext16, BitVec.toNat_add]
    rfl
  · rw [readByte_writeWord, if_neg ha1, if_neg ha]

/-- Settles O22: by what a push leaves at every address of memory, its slot being $0100 + SP. -/
theorem pullGivesBackTheBytePushed : Obligations.PullGivesBackTheBytePushed := by
  intro s v
  simp only [stackSlot_zero]
  refine ⟨?_, ?_, stackAddr_toNat s.sp, fun other ho => ?_, pulled8_push8 s v, BitVec.sub_add_cancel _ _,
    (stackByte_eq_readByte s 1).symm, BitVec.toNat_add _ _⟩
  · rw [readByte_push8, if_pos rfl]
  · rw [push8_sp, BitVec.toNat_sub, Nat.add_comm]
    rfl
  · rw [readByte_push8, if_neg ho]

/-- Settles O33: the pull delivers the byte pushed, and the pointer and `PC` come out as stated. -/
theorem pushThenPullRestores : Obligations.PushThenPullRestores := by
  refine fun s => ⟨⟨_, _, exec_php s, exec_plp _, ?_⟩, ⟨_, _, exec_pha s, exec_pla _, ?_⟩⟩
  · rw [pull8_after_push8, pulled8_retire, pulled8_push8]
    simp only [retire_p, push8_p, advancePc_p, pLoad_pByte]
    rfl
  · rw [pull8_after_push8, pulled8_retire, pulled8_push8]
    simp only [retire_p, push8_p, advancePc_p, setNZ_eq_withNZ]
    rfl

/-- Settles O57: every byte after the instruction is the one its rule gives, and the next step fetches these. -/
theorem storeIsSeenByTheNextFetch : Obligations.StoreIsSeenByTheNextFetch := by
  intro i s t h
  have hl : Live t := live_of_exec h
  simp only [← readByte_of_exec h]
  exact ⟨fun _ => trivial, stepIn_of_unmapped hl rfl, fun j hj => step_of_fetchInstr hl hj⟩

end Sys2Proof.Proofs
end

section
/-! The encoding (spec/30_encoding.md): bytes decode to an instruction exactly when the first is its opcode byte and
the others assemble its operand. Both directions of the round trip and the sample bytes follow from that. -/

namespace Sys2Proof.Proofs

open Machine Safety Laws

/-! ## The rows of the table -/

theorem mem_of_lookup {t : InstructionSet} {b : Byte} {r : Row} (h : lookup t b = some r) : r ∈ t ∧ r.opcode = b := by
  induction t with
  | nil => cases h
  | cons q t ih =>
    rw [lookup] at h
    split at h
    case h_1 p hp =>
      obtain ⟨hr, hb⟩ := ih (hp.trans h)
      exact ⟨List.mem_cons_of_mem q hr, hb⟩
    case h_2 =>
      split at h <;> cases h
      exact ⟨List.mem_cons_self, beq_iff_eq.mp ‹_›⟩

theorem tableRow_opcode (i : Instr) : (tableRow i).opcode = i.opcode := (mem_of_lookup (lookup_base i)).2

/-- The row of an instruction names its mnemonic and its mode. -/
theorem tableRow_mnemonic_mode (i : Instr) :
    (tableRow i).mnemonic = i.mnemonic ∧ (tableRow i).mode = i.operand.mode := by
  have h := lookup_opcode i
  rw [lookup_base, Option.map_some, Option.some_inj] at h
  exact Prod.mk.inj h

theorem ofParts_mnemonic_operand (i : Instr) : Instr.ofParts i.mnemonic i.operand = some i := by
  cases i <;> rfl

/-- Each row in turn, with the operand bytes left open, makes an instruction with that row and that operand. The table
is compared by its sixteen parts, since `rfl` on all rows at once exceeds the recursion limit. -/
theorem map_ofParts_rows (b1 b2 : Byte) :
    (base6502.map fun r => (Instr.ofParts r.mnemonic (assembleOperand r.mode b1 b2)).map fun i =>
      (tableRow i, i.operand)) = base6502.map fun r => some (r, assembleOperand r.mode b1 b2) := by
  simp only [base6502, List.map_append]
  rfl

/-- No row of the base table is malformed (40_addressing_modes.md R95). -/
theorem ofParts_of_row {r : Row} (h : r ∈ base6502) (b1 b2 : Byte) :
    ∃ i, Instr.ofParts r.mnemonic (assembleOperand r.mode b1 b2) = some i ∧
      tableRow i = r ∧ i.operand = assembleOperand r.mode b1 b2 := by
  obtain ⟨i, hi, he⟩ := Option.map_eq_some_iff.mp (List.map_inj_left.mp (map_ofParts_rows b1 b2) r h)
  exact ⟨i, hi, Prod.mk.inj he⟩

/-- The 105 bytes of R66 and the opcode bytes of the base table, in rising order, are all the bytes, each once. -/
theorem sorted_unmapped_and_opcodes :
    ((unmappedBytes ++ base6502.map Row.opcode).map BitVec.toNat).insertionSort (· ≤ ·) = List.range 256 := by
  decide +kernel

theorem mem_unmapped_or_opcode (b : Byte) : b ∈ unmappedBytes ∨ ∃ r ∈ base6502, r.opcode = b := by
  have h : b.toNat ∈ (unmappedBytes ++ base6502.map Row.opcode).map BitVec.toNat := by
    rw [← List.mem_insertionSort (· ≤ ·), sorted_unmapped_and_opcodes]
    exact List.mem_range.mpr b.isLt
  simpa [BitVec.toNat_inj] using h

/-! ## Decoding -/

theorem decode_of_ofParts {b0 b1 b2 : Byte} {r : Row} {i : Instr} (hr : lookup base6502 b0 = some r)
    (hi : Instr.ofParts r.mnemonic (assembleOperand r.mode b1 b2) = some i) : decode b0 b1 b2 = .ok i := by
  unfold decode
  rw [hr]
  simp only [hi]

theorem decode_of_no_row {b0 : Byte} (h : lookup base6502 b0 = none) (b1 b2 : Byte) :
    decode b0 b1 b2 = .error (.unknownOpcode b0) := by
  unfold decode
  rw [h]

/-- Bytes decode to the instruction whose opcode byte comes first and whose operand the others assemble. -/
theorem decode_eq_ok_iff {b0 b1 b2 : Byte} {i : Instr} :
    decode b0 b1 b2 = .ok i ↔ i.opcode = b0 ∧ assembleOperand i.operand.mode b1 b2 = i.operand := by
  obtain ⟨hm, hd⟩ := tableRow_mnemonic_mode i
  constructor
  · intro h
    cases hr : lookup base6502 b0 with
    | none =>
      rw [decode_of_no_row hr] at h
      cases h
    | some r =>
      obtain ⟨hmem, hb⟩ := mem_of_lookup hr
      obtain ⟨j, hj, rfl, ho⟩ := ofParts_of_row hmem b1 b2
      obtain rfl : j = i := Except.ok.inj ((decode_of_ofParts hr hj).symm.trans h)
      exact ⟨(tableRow_opcode j).symm.trans hb, by rw [← hd, ho]⟩
  · rintro ⟨rfl, ho⟩
    exact decode_of_ofParts (lookup_base i) (by rw [hm, hd, ho, ofParts_mnemonic_operand])

/-- A byte outside the 105 of R66 starts an instruction, whatever follows it. -/
theorem exists_decode_of_mapped {b0 : Byte} (h : b0 ∉ unmappedBytes) (b1 b2 : Byte) :
    ∃ i, decode b0 b1 b2 = .ok i := by
  obtain ⟨r, hr, rfl⟩ := (mem_unmapped_or_opcode b0).resolve_left h
  obtain ⟨i, -, rfl, ho⟩ := ofParts_of_row hr b1 b2
  exact ⟨i, decode_eq_ok_iff.mpr ⟨(tableRow_opcode i).symm, by rw [ho, assembleOperand_mode]⟩⟩

/-- The mnemonic of every instruction accepts the mode of its operand (40_addressing_modes.md R95). -/
theorem wellFormed_instr (i : Instr) : i.wellFormed = true := by
  cases i <;> rfl

/-! ## Operand bytes -/

/-- The bytes of an operand, with any two after them, assemble to it (R61, R62). -/
theorem assembleOperand_bytes (o : Operand) (x y : Byte) :
    ∃ b1 b2 rest, o.bytes ++ [x, y] = b1 :: b2 :: rest ∧ assembleOperand o.mode b1 b2 = o := by
  cases o
  case imp | acc | imm | zp | zpx | zpy | izx | izy | rel => exact ⟨_, _, _, rfl, rfl⟩
  case abs w | abx w | aby w | ind w => exact ⟨_, _, _, rfl, congrArg _ (wordOf_hi_lo w)⟩

/-- An assembled operand has the bytes it was assembled from, as many as its mode reads. -/
theorem bytes_assembleOperand (md : Mode) (b0 b1 b2 : Byte) :
    b0 :: (assembleOperand md b1 b2).bytes = [b0, b1, b2].take md.length := by
  cases md <;> simp [assembleOperand, Operand.bytes, Mode.length]

/-! ## The statements -/

/-- Settles O6: the opcode byte selects the row, and the operand bytes assemble the operand. -/
theorem decodeOfEncodeIsTheInstruction : Obligations.DecodeOfEncodeIsTheInstruction := by
  intro i x y
  obtain ⟨b1, b2, rest, hb, ho⟩ := assembleOperand_bytes i.operand x y
  exact ⟨i.opcode, b1, b2, rest, congrArg (i.opcode :: ·) hb, decode_eq_ok_iff.mpr ⟨rfl, ho⟩⟩

/-- Settles O2: an unmapped byte has no row; any other starts an instruction, and every instruction completes. -/
theorem unmappedByteFaultsAndOthersComplete : Obligations.UnmappedByteFaultsAndOthersComplete := by
  intro s hl
  split
  case isTrue h => exact ⟨s.pc, stepIn_of_unmapped hl rfl h⟩
  case isFalse h =>
    obtain ⟨i, hi⟩ := exists_decode_of_mapped h (readByte s (s.pc + 1)) (readByte s (s.pc + 2))
    exact ⟨_, (step_of_fetchInstr hl hi).trans (exec_eq_effect i s)⟩

/-- Settles O7: the opcode byte is the instruction's, and the operand has the bytes it was assembled from. -/
theorem decodedBytesAreTheEncoding : Obligations.DecodedBytesAreTheEncoding := by
  intro b0 b1 b2 i h
  obtain ⟨rfl, ho⟩ := decode_eq_ok_iff.mp h
  refine ⟨?_, wellFormed_instr i⟩
  rw [Instr.length, ← bytes_assembleOperand, ho, encode]

/-- Settles O8: each opcode byte and operand is compared with the instruction's, and $FF is unmapped. -/
theorem sampleBytesDecodeAsTheSpecSays : Obligations.SampleBytesDecodeAsTheSpecSays := by
  unfold Obligations.SampleBytesDecodeAsTheSpecSays
  simp only [decode_eq_ok_iff]
  refine ⟨⟨rfl, rfl⟩, ⟨rfl, rfl⟩, ⟨rfl, rfl⟩, ⟨rfl, rfl⟩, ⟨rfl, rfl⟩, ⟨rfl, rfl⟩, ⟨rfl, rfl⟩, ⟨rfl, rfl⟩,
    ⟨rfl, rfl⟩, ⟨rfl, rfl⟩, ⟨rfl, rfl⟩, decode_of_no_row (lookup_unmapped _ (by decide)) _ _⟩

end Sys2Proof.Proofs
end

section
/-! The statements on operands and on the step (spec/40_addressing_modes.md). Resolution is first put into arithmetic:
where `PC` stands past an instruction, an address of page zero, a pointer, an indexed address, a branch target. -/

namespace Sys2Proof.Proofs

open Machine Safety Laws

/-! ## Addresses in arithmetic -/

/-- Fetching an instruction puts `PC` past its bytes, mod 65536 (R81). -/
theorem past_pc_toNat (o : Operand) (s : State) :
    (past o s).pc.toNat = (s.pc.toNat + o.mode.length) % 65536 := by
  rw [past_pc, BitVec.toNat_add, BitVec.toNat_ofNat, Nat.add_mod_mod]

theorem zext16_eq_ofNat (b : Byte) : zext16 b = BitVec.ofNat 16 b.toNat := (BitVec.ofNat_toNat 16 b).symm

/-- An indexed address of page zero stays there (decision D7). -/
theorem zext16_add (z index : Byte) :
    zext16 (z + index) = BitVec.ofNat 16 ((z.toNat + index.toNat) % 256) := by
  rw [zext16_eq_ofNat, BitVec.toNat_add]

/-- Both bytes of a pointer held in page zero come from page zero (decision D8). -/
theorem readZp16_toNat_memRead (s : State) (z : Byte) :
    (readZp16 s z).toNat = 256 * (memRead s.mem ((z.toNat + 1) % 256)).toNat + (memRead s.mem z.toNat).toNat := by
  rw [readZp16_toNat, readByte_zext16, readByte_zext16, BitVec.toNat_add]
  rfl

/-- The word at a pointer held in page zero at an indexed address (R92). -/
theorem readZp16_add (s : State) (z index : Byte) :
    readZp16 s (z + index) = BitVec.ofNat 16 (256 * (memRead s.mem ((z.toNat + index.toNat + 1) % 256)).toNat
      + (memRead s.mem ((z.toNat + index.toNat) % 256)).toNat) := by
  rw [← Nat.mod_add_mod (z.toNat + index.toNat), ← BitVec.toNat_add z index, ← readZp16_toNat_memRead,
    BitVec.ofNat_toNat, BitVec.setWidth_eq]

/-- An indexed address wraps at 65536, and crosses when its page is not that of the base (R89, R90, R93). -/
theorem indexed_eq (base : Word) (index : Byte) :
    indexed base index = .mem (BitVec.ofNat 16 ((base.toNat + index.toNat) % 65536))
      (decide (base.toNat / 256 ≠ (base.toNat + index.toNat) % 65536 / 256)) := by
  have hea : (base + zext16 index).toNat = (base.toNat + index.toNat) % 65536 := by
    rw [BitVec.toNat_add, zext16_toNat]
  rw [indexed, pageCrossed_eq, ← hea, BitVec.ofNat_toNat, BitVec.setWidth_eq]

/-- A branch target is the offset byte read as two's complement away, mod 65536 (R94). -/
theorem add_sext16_toNat (pc : Word) (o : Byte) :
    ((pc + sext16 o).toNat : Int) = (pc.toNat + o.toInt) % 65536 := by
  rw [BitVec.toNat_add, Int.natCast_emod, Int.natCast_add, sext16_toNat]
  exact Int.add_emod_emod ..

/-- The word at a pointer, its high byte from the next address mod 65536 (R91). -/
theorem indirectTarget_false_toNat (ptr : Word) (s : State) :
    (indirectTarget false ptr s).toNat =
      256 * (memRead s.mem ((ptr.toNat + 1) % 65536)).toNat + (memRead s.mem ptr.toNat).toNat := by
  rw [← readByte_add_one]
  exact readWord_toNat s ptr

/-- The next address inside the page of `ptr`. -/
theorem wordOf_hi_lo_add_one_toNat (ptr : Word) :
    (wordOf (hiByte ptr) (loByte ptr + 1)).toNat = ptr.toNat / 256 * 256 + (ptr.toNat + 1) % 256 := by
  rw [wordOf_toNat, hiByte_toNat, BitVec.toNat_add, loByte_toNat]
  exact congrArg _ (Nat.mod_add_mod ..)

/-- The word at a pointer, its high byte from the page of the low byte (R91, decision D9). -/
theorem indirectTarget_true_toNat (ptr : Word) (s : State) :
    (indirectTarget true ptr s).toNat =
      256 * (memRead s.mem (ptr.toNat / 256 * 256 + (ptr.toNat + 1) % 256)).toNat
        + (memRead s.mem ptr.toNat).toNat := by
  rw [← wordOf_hi_lo_add_one_toNat, Nat.mul_comm]
  exact wordOf_toNat ..

/-! ## What uses a parameter -/

/-- Only the indirect mode uses a parameter (R91). -/
theorem resolveIn_of_ne_ind {o : Operand} (h : o.mode ≠ .ind) (p : Params) (s : State) :
    resolveIn p o s = resolve o s := by
  cases o
  case ind => exact absurd rfl h
  all_goals rfl

/-- JMP (indirect) completes at the target its parameter gives (R170). -/
theorem execIn_jmpInd (p : Params) (ptr : Word) (s : State) :
    execIn p (.jmpInd ptr) s = .next { done (.jmpInd ptr) s with pc := indirectTarget p.jmpIndPageWrap ptr s } := by
  rw [done, cost_of_none s rfl]
  rfl

/-! ## What a faulting step has done -/

/-- A step that faults was not refused. -/
theorem live_of_step_fault {s : State} {f : Fault} (h : step s = .fault f) : Live s := by
  rw [step_eq] at h
  cases hl : s.life
  case ready => exact .inl hl
  case running => exact .inr hl
  all_goals rw [hl] at h; cases h

/-! ## The statements -/

/-- Settles O23: the wraps are those of byte addition; the other clauses read off the definitions. -/
theorem immediateAndZeroPageOperandsResolveAndDeliver :
    Obligations.ImmediateAndZeroPageOperandsResolveAndDeliver := by
  refine fun s z => ⟨⟨rfl, past_pc_toNat .imp s⟩, ⟨rfl, past_pc_toNat .acc s⟩, ⟨rfl, past_pc_toNat (.imm z) s⟩,
    ?zp, ?zpx, ?zpy, ?izx, ⟨rfl, rfl, rfl⟩, ⟨rfl, rfl, rfl⟩, fun w crossed => ⟨rfl, rfl, rfl, rfl⟩⟩
  case zp => exact congrArg (Opnd.mem · false) (zext16_eq_ofNat z)
  case zpx => exact congrArg (Opnd.mem · false) (zext16_add z s.x)
  case zpy => exact congrArg (Opnd.mem · false) (zext16_add z s.y)
  case izx => exact congrArg (Opnd.mem · false) (readZp16_add s z s.x)

/-- Settles O24: abx, aby and izy index a base, which is the operand or the pointer in page zero. -/
theorem indexedModesResolveMod65536AndReportCrossing :
    Obligations.IndexedModesResolveMod65536AndReportCrossing := by
  intro s w z
  refine ⟨rfl, indexed_eq w s.x, indexed_eq w s.y, ?_⟩
  rw [← readZp16_toNat_memRead]
  exact indexed_eq (readZp16 s z) s.y

/-- Settles O25: the target is `PC` plus the sign-extended offset. -/
theorem branchOffsetsAreSignedFromTheNextInstruction :
    Obligations.BranchOffsetsAreSignedFromTheNextInstruction := by
  refine fun s o => ⟨past_pc_toNat (.rel o) s, s.pc + sext16 o, add_sext16_toNat s.pc o, ?_⟩
  rw [← pageCrossed_eq]
  rfl

/-- Settles O26: by the word at the pointer under each value of the parameter. -/
theorem indirectTargetFollowsTheParameter : Obligations.IndirectTargetFollowsTheParameter :=
  fun s ptr => ⟨indirectTarget_false_toNat ptr s, indirectTarget_true_toNat ptr s, rfl, fun p =>
    ⟨rfl, execIn_jmpInd p ptr s, fun _ ho => resolveIn_of_ne_ind ho p s⟩⟩

/-- Settles O27: every instruction is its effect, then the cost of its row charged. -/
theorem everyInstructionCompletesAndChargesItsTableCost :
    Obligations.EveryInstructionCompletesAndChargesItsTableCost :=
  fun i s => ⟨_, exec_eq_effect i s, cycles_of_exec (exec_eq_effect i s), rfl⟩

/-- Settles O1: the three bytes are those that `fetchInstr` hands to the decoder. -/
theorem stepRunsTheDecodedInstruction : Obligations.StepRunsTheDecodedInstruction :=
  fun _ _ hl hi => step_of_fetchInstr hl hi

/-- Settles O4: a step on a mapped byte completes, so the byte at `PC` is unmapped. -/
theorem stepFaultsOnlyWithUnknownOpcode : Obligations.StepFaultsOnlyWithUnknownOpcode := by
  intro s f h
  have hl := live_of_step_fault h
  by_cases hu : opcodeAt s ∈ unmappedBytes
  · exact Host.Outcome.fault.inj (h.symm.trans (stepIn_of_unmapped hl rfl hu))
  · obtain ⟨i, hi⟩ := exists_decode_of_mapped hu (readByte s (s.pc + 1)) (readByte s (s.pc + 2))
    cases h.symm.trans ((step_of_fetchInstr hl hi).trans (exec_eq_effect i s))

end Sys2Proof.Proofs
end

section
/-! The statements on loads, stores and transfers (spec/41_load_store_transfer.md). What an instruction leaves is its
effect on `done`: its cycles can be charged and `life` set before its effect, which reads neither. -/

namespace Sys2Proof.Proofs

open Machine Safety Laws

/-! ## Effects on a state whose cycles are already charged -/

/-- The machine in another lifecycle state. -/
def withLife (l : Life) (s : State) : State := { s with life := l }

/-- No effect reads the lifecycle state. -/
theorem kindEffect_withLife (m : Mnemonic) (o : Operand) (b : Byte) (w : Word) (l : Life) (s : State) :
    kindEffect (kindOf m o) b w (withLife l s) = withLife l (kindEffect (kindOf m o) b w s) := by
  cases m
  case asl | lsr | rol | ror => cases o <;> rfl
  all_goals rfl

theorem retire_eq (n : Nat) (s : State) : retire n s = withCycles (s.cycles + n) (withLife .running s) := rfl

/-- The common part of every instruction: `PC` past its bytes, its cost charged, `life` = Running (R80, R96). -/
theorem retire_past (i : Instr) (s : State) : retire (cost i s) (past i.operand s) = done i s := rfl

/-- An effect reads neither of the fields that `retire` writes, so the two commute. -/
theorem retire_kindEffect (m : Mnemonic) (o : Operand) (b : Byte) (w : Word) (n : Nat) (s : State) :
    retire n (kindEffect (kindOf m o) b w s) = kindEffect (kindOf m o) b w (retire n s) := by
  rw [retire_eq, retire_eq, kindEffect_cycles, kindEffect_withCycles, kindEffect_withLife]

/-- The effect of an instruction, at work on `done`. -/
theorem retire_kindEffect_past (i : Instr) (s : State) (b : Byte) (w : Word) :
    retire (cost i s) (kindEffect (kindOf i.mnemonic i.operand) b w (past i.operand s)) =
      kindEffect (kindOf i.mnemonic i.operand) b w (done i s) := by
  rw [retire_kindEffect, retire_past]

/-- A read instruction leaves its effect on `done`, with the operand it resolves to. -/
theorem exec_read_done {i : Instr} {f : Byte → State → State} (s : State)
    (h : kindOf i.mnemonic i.operand = .read f) :
    ∃ m, readOperand i s = .ok m ∧ exec i s = .next (f m (done i s)) := by
  obtain ⟨m, hm, he⟩ := exec_read s h
  have hd := retire_kindEffect_past i s m 0
  rw [h] at hd
  exact ⟨m, hm, he.trans (congrArg _ hd)⟩

/-- A store leaves `done` with its register written at the address it resolves to. -/
theorem exec_write_done {i : Instr} {r : State → Byte} (s : State) (h : kindOf i.mnemonic i.operand = .write r) :
    ∃ ea, targetOf i s = .ok ea ∧ exec i s = .next (writeByte (done i s) ea (r (done i s))) := by
  obtain ⟨ea, hea, he⟩ := exec_write s h
  have hd := retire_kindEffect_past i s 0 ea
  rw [h] at hd
  exact ⟨ea, hea, he.trans (congrArg _ hd)⟩

/-- An instruction of implied mode leaves its effect on `done`. -/
theorem exec_implied_done (i : Instr) {f : State → State} (s : State)
    (h : kindOf i.mnemonic i.operand = .implied f) : exec i s = .next (f (done i s)) := by
  have hd := retire_kindEffect_past i s 0 0
  rw [h] at hd
  exact (exec_implied s h).trans (congrArg _ hd)

/-! ## The statements -/

/-- Settles O28: each load is a read whose effect sets its register, N and Z. -/
theorem loadsSetTheirRegisterAndNZ : Obligations.LoadsSetTheirRegisterAndNZ := by
  refine ⟨by decide, by decide, by decide, fun i s => ?_⟩
  simp only [← setNZ_eq_withNZ]
  exact ⟨fun h => exec_read_done (f := ldaEffect) s (congrArg (kindOf · i.operand) h),
    fun h => exec_read_done (f := ldxEffect) s (congrArg (kindOf · i.operand) h),
    fun h => exec_read_done (f := ldyEffect) s (congrArg (kindOf · i.operand) h)⟩

/-- Settles O29: each store writes its register, which is in `done` as it was before. -/
theorem storesWriteTheirRegister : Obligations.StoresWriteTheirRegister :=
  ⟨by decide, by decide, by decide, fun i s =>
    ⟨fun h => exec_write_done (r := State.a) s (congrArg (kindOf · i.operand) h),
      fun h => exec_write_done (r := State.x) s (congrArg (kindOf · i.operand) h),
      fun h => exec_write_done (r := State.y) s (congrArg (kindOf · i.operand) h)⟩⟩

/-- Settles O30: each transfer is of implied mode, and the effect of all but TXS sets N and Z. -/
theorem transfersCopyTheirSource : Obligations.TransfersCopyTheirSource := by
  refine ⟨by decide, by decide, fun s => ?_⟩
  simp only [← setNZ_eq_withNZ]
  exact ⟨(exec_implied_done .tax s rfl :), (exec_implied_done .tay s rfl :), (exec_implied_done .txa s rfl :),
    (exec_implied_done .tya s rfl :), (exec_implied_done .tsx s rfl :), (exec_implied_done .txs s rfl :)⟩

end Sys2Proof.Proofs
end

section
/-! The statements on the stack instructions (spec/42_stack.md): what a push and a pull leave, and the flags PLP loads,
in the arithmetic of the statements. -/

namespace Sys2Proof.Proofs

open Machine Safety Laws

/-! ## Push, pull and the loaded flags in arithmetic -/

/-- The state after `Push8(v)` (20_memory.md R47). -/
theorem push8_eq (s : State) (v : Byte) :
    push8 s v = { s with
      sp := BitVec.ofNat 8 ((s.sp.toNat + 255) % 256), mem := memWrite s.mem (0x100 + s.sp.toNat) v } := by
  rw [← sub_one_eq_ofNat, ← stackAddr_toNat]
  rfl

/-- The state after `Pull8()` (20_memory.md R48). -/
theorem pull8_eq (s : State) : pull8 s = { s with sp := BitVec.ofNat 8 ((s.sp.toNat + 1) % 256) } := by
  rw [← add_one_eq_ofNat]
  rfl

/-- The byte `Pull8()` delivers, also where `SP` wraps (20_memory.md R48). -/
theorem pulled8_eq_stackByte (s : State) : pulled8 s = stackByte s 1 := (stackByte_eq_readByte s 1).symm

theorem getLsbD_eq_bitOf (v : Byte) (k : Nat) : v.getLsbD k = bitOf v k := Nat.testBit_eq_decide_div_mod_eq

/-- The flags PLP and RTI load (10_state.md R17). -/
theorem pLoad_eq_loaded (p : Status) (v : Byte) : pLoad p v = loaded p v := by
  simp only [pLoad, loaded, getLsbD_eq_bitOf]

/-! ## The statements -/

/-- Settles O31: both are of implied mode, and their effects on `done` are a push of A and a pull into A. -/
theorem pushAndPullOfTheAccumulator : Obligations.PushAndPullOfTheAccumulator := by
  refine ⟨by decide, fun s => ⟨(exec_implied_done .pha s rfl).trans ?_, (exec_implied_done .pla s rfl).trans ?_⟩⟩
  · rw [push8_eq]
    rfl
  · rw [pull8_eq, pulled8_eq_stackByte, setNZ_eq_withNZ]
    rfl

/-- Settles O32: both are of implied mode, and their effects on `done` are a push of the status byte and a pull into
the six flags that `pLoad` writes. -/
theorem pushAndPullOfTheStatus : Obligations.PushAndPullOfTheStatus := by
  refine ⟨by decide, fun s => ⟨(exec_implied_done .php s rfl).trans ?_, (exec_implied_done .plp s rfl).trans ?_⟩⟩
  · rw [push8_eq, pByte_eq_ofNat]
    rfl
  · rw [pull8_eq, pulled8_eq_stackByte, pLoad_eq_loaded]
    rfl

end Sys2Proof.Proofs
end

section
/-! The statements on logic, arithmetic and compares (spec/43_logic_arith.md). Each of these instructions is a read
whose effect works on `done`. What the adder leaves is put into the arithmetic of the statements first, with SBC as ADC
of the complemented operand. -/

namespace Sys2Proof.Proofs

open Machine Safety Laws

/-! ## The adder in the words of R134 -/

theorem ofNat8_mod (n : Nat) : BitVec.ofNat 8 (n % 256) = BitVec.ofNat 8 n :=
  BitVec.eq_of_toNat_eq (Nat.mod_mod n 256)

theorem overflow_eq_decide (a m r : Byte) : overflow a m r = decide ((a ^^^ r) &&& (m ^^^ r) &&& 0x80 ≠ 0) :=
  (decide_not ..).symm

/-- The effect of ADC: the binary sum and its flags while D = 0, the result of `dec` while D = 1. -/
theorem arithEffect_adcWith (dec : Byte → Byte → Bool → DecimalResult) (m : Byte) (s : State) :
    arithEffect (adcWith dec) m s =
      if s.p.d = false then
        { s with a := (adcBinary s.a m s.p).1, p := (adcBinary s.a m s.p).2 }
      else { s with a := (dec s.a m s.p.c).a, p := decimalFlags s.p (dec s.a m s.p.c) } := by
  unfold arithEffect adcWith
  cases s.p.d <;> rfl

/-- The effect of SBC is that of ADC on the complemented operand, with its own decimal result. -/
theorem arithEffect_sbcWith (dec : Byte → Byte → Bool → DecimalResult) (m : Byte) (s : State) :
    arithEffect (sbcWith dec) m s = arithEffect (adcWith fun a _ c => dec a m c) (m ^^^ 0xFF) s := rfl

/-- ADC leaves its effect on `done`. -/
theorem exec_adc_done {i : Instr} (s : State) (h : i.mnemonic = .adc) :
    ∃ M, readOperand i s = .ok M ∧ exec i s = .next (arithEffect (adcWith Config.decAdc) M (done i s)) :=
  exec_read_done (f := arithEffect adc) s (congrArg (kindOf · i.operand) h)

/-- SBC leaves on `done` the effect of ADC on the complemented operand. -/
theorem exec_sbc_done {i : Instr} (s : State) (h : i.mnemonic = .sbc) :
    ∃ M, readOperand i s = .ok M ∧
      exec i s = .next (arithEffect (adcWith fun a _ c => Config.decSbc a M c) (M ^^^ 0xFF) (done i s)) :=
  exec_read_done (f := arithEffect sbc) s (congrArg (kindOf · i.operand) h)

/-! ## The adder in exact arithmetic -/

/-- Masking with $80 tests bit 7. -/
theorem and_80_ne_zero (v : Byte) : (v &&& 0x80 != 0) = v.getLsbD 7 := by
  have h : v &&& 0x80 = if v.getLsbD 7 then 0x80 else 0 := BitVec.and_twoPow v 7
  rw [h]
  cases v.getLsbD 7 <;> rfl

/-- V compares high bits: the result has another one than both operands. -/
theorem overflow_eq_bit7 (a m r : Byte) :
    overflow a m r = ((a.getLsbD 7 ^^ r.getLsbD 7) && (m.getLsbD 7 ^^ r.getLsbD 7)) := by
  rw [overflow, and_80_ne_zero, BitVec.getLsbD_and, BitVec.getLsbD_xor, BitVec.getLsbD_xor]

theorem carryNat_le_one (c : Bool) : carryNat c ≤ 1 := by cases c <;> decide

/-- V is signed overflow of the exact sum (R140). -/
theorem overflow_adcSum (a m : Byte) (c : Bool) :
    overflow a m (BitVec.ofNat 8 (adcSum a m c)) =
      decide (a.toInt + m.toInt + carryNat c < -128 ∨ 127 < a.toInt + m.toInt + carryNat c) := by
  have hc := carryNat_le_one c
  have ha := a.isLt
  have hm := m.isLt
  rw [overflow_eq_bit7, Bool.eq_iff_iff]
  simp only [bit7_eq, adcSum, BitVec.toNat_ofNat, BitVec.toInt_eq_toNat_cond, Bool.and_eq_true, bne_iff_ne,
    ne_eq, decide_eq_decide, decide_eq_true_eq]
  omega

theorem xor_ff_eq_not (m : Byte) : m ^^^ 0xFF = ~~~m := BitVec.xor_allOnes

/-- The complemented operand as an unsigned number (R135). -/
theorem toNat_xor_ff (m : Byte) : (m ^^^ 0xFF).toNat = 255 - m.toNat := by
  rw [xor_ff_eq_not, BitVec.toNat_not]

/-- The complemented operand as a signed number (R135). -/
theorem toInt_xor_ff (m : Byte) : (m ^^^ 0xFF).toInt = -1 - m.toInt := by
  have := m.isLt
  simp only [BitVec.toInt_eq_toNat_cond, toNat_xor_ff]
  omega

/-- A, C and V after ADC with D = 0, in exact arithmetic (R140). -/
theorem arithEffect_adcWith_exact (dec : Byte → Byte → Bool → DecimalResult) (m : Byte) {s t : State}
    (hd : s.p.d = false) (ht : t = arithEffect (adcWith dec) m s) :
    t.a.toNat = (s.a.toNat + m.toNat + carryNat s.p.c) % 256 ∧
      t.p.c = decide (255 < s.a.toNat + m.toNat + carryNat s.p.c) ∧
      t.p.v = decide (s.a.toInt + m.toInt + carryNat s.p.c < -128 ∨
        127 < s.a.toInt + m.toInt + carryNat s.p.c) := by
  rw [arithEffect_adcWith, if_pos hd] at ht
  subst ht
  exact ⟨BitVec.toNat_ofNat .., rfl, overflow_adcSum ..⟩

/-! ## The decimal flag -/

/-- The machine with another decimal flag. -/
def withDecimal (d : Bool) (s : State) : State := { s with p := { s.p with d := d } }

/-- Only the adder, the pushes of the status byte and the writers of D read the decimal flag. -/
theorem kindEffect_withDecimal {m : Mnemonic} (o : Operand) (b : Byte) (w : Word) (d : Bool) (s : State)
    (h : m ∉ [.adc, .sbc, .php, .brk, .plp, .rti, .sed, .cld]) :
    kindEffect (kindOf m o) b w (withDecimal d s) = withDecimal d (kindEffect (kindOf m o) b w s) := by
  cases m <;> simp at h
  case asl | lsr | rol | ror => cases o <;> rfl
  all_goals rfl

/-! ## The statements -/

/-- Settles O19: another decimal flag passes through operand, cost and effect. -/
theorem onlyAdcAndSbcComputeWithTheDecimalFlag : Obligations.OnlyAdcAndSbcComputeWithTheDecimalFlag := by
  intro i s t d hm h
  obtain rfl := eq_of_exec h
  have hd : (effectOf i s).p.d = s.p.d := kindEffect_d _ _ _ (past i.operand s) (by simp_all)
  exact ⟨hd, exec_of_commutes (g := withDecimal d) ⟨rfl, rfl, rfl, rfl, rfl, rfl, rfl, rfl, rfl⟩ rfl
    fun b w t => kindEffect_withDecimal _ b w d t hm⟩

/-- Settles O34: each is a read whose effect sets A, N and Z. -/
theorem logicInstructionsCombineWithA : Obligations.LogicInstructionsCombineWithA := by
  refine ⟨by decide, by decide, by decide, fun i s => ?_⟩
  simp only [← setNZ_eq_withNZ]
  exact ⟨fun h => exec_read_done (f := logicEffect (· &&& ·)) s (congrArg (kindOf · i.operand) h),
    fun h => exec_read_done (f := logicEffect (· ||| ·)) s (congrArg (kindOf · i.operand) h),
    fun h => exec_read_done (f := logicEffect (· ^^^ ·)) s (congrArg (kindOf · i.operand) h)⟩

/-- Settles O35: BIT is a read whose effect writes three flags. -/
theorem bitTestsWithoutChangingA : Obligations.BitTestsWithoutChangingA := by
  refine ⟨by decide, fun i s h => ?_⟩
  simp only [← getLsbD_eq_bitOf]
  exact exec_read_done (f := bitEffect) s (congrArg (kindOf · i.operand) h)

/-- Settles O36: both leave the effect of ADC on `done`, in the words of the pseudocode. -/
theorem adcAndSbcFollowTheirPseudocode : Obligations.AdcAndSbcFollowTheirPseudocode := by
  refine ⟨by decide, by decide, fun i s => ?_⟩
  simp only [← setNZ_eq_withNZ, ← overflow_eq_decide, ofNat8_mod]
  refine ⟨fun h => ?_, fun h => ?_⟩
  · obtain ⟨M, hM, he⟩ := exec_adc_done s h
    exact ⟨M, hM, he.trans (congrArg _ (arithEffect_adcWith ..))⟩
  · obtain ⟨M, hM, he⟩ := exec_sbc_done s h
    exact ⟨M, hM, he.trans (congrArg _ (arithEffect_adcWith ..))⟩

/-- Settles O37: by the exact sum of ADC, in which SBC adds 255 - M, as a signed number -1 - M. -/
theorem binaryAddAndSubtractAreExactArithmetic : Obligations.BinaryAddAndSubtractAreExactArithmetic := by
  refine fun i s hd => ⟨fun h => ?_, fun h => ?_⟩
  · obtain ⟨M, hM, he⟩ := exec_adc_done s h
    exact ⟨M, _, hM, he, arithEffect_adcWith_exact (s := done i s) _ M hd rfl⟩
  · obtain ⟨M, hM, he⟩ := exec_sbc_done s h
    obtain ⟨ha, hc, hv⟩ := arithEffect_adcWith_exact (s := done i s) _ (M ^^^ 0xFF) hd rfl
    refine ⟨M, _, hM, he, ?_⟩
    rw [ha, hc, hv, toNat_xor_ff, toInt_xor_ff]
    simp only [decide_eq_decide]
    have := carryNat_le_one s.p.c
    have := M.isLt
    simp only [done]
    omega

/-- Settles O38: each is a read whose effect writes three flags. -/
theorem comparesSetNZCAndStoreNothing : Obligations.ComparesSetNZCAndStoreNothing := by
  refine ⟨by decide, by decide, by decide, fun i s => ?_⟩
  simp only [← getLsbD_eq_bitOf]
  exact ⟨fun h => exec_read_done (f := compareEffect State.a) s (congrArg (kindOf · i.operand) h),
    fun h => exec_read_done (f := compareEffect State.x) s (congrArg (kindOf · i.operand) h),
    fun h => exec_read_done (f := compareEffect State.y) s (congrArg (kindOf · i.operand) h)⟩

end Sys2Proof.Proofs
end

section
/-! The statements on increments, decrements, shifts and rotates (spec/44_incdec_shift.md), and on the bytes an
instruction that stores or pushes leaves alone. A read-modify-write form, like the accumulator form of a shift, leaves
its result and its flags on `done`; the result, the bit shifted out and the flags are put into the arithmetic of the
statements. -/

namespace Sys2Proof.Proofs

open Machine Safety Laws

/-! ## Read-modify-write and accumulator forms at work on `done` -/

/-- A read-modify-write form leaves `done` with its flags, and its result at the address it resolves to (R160). -/
theorem exec_rmw_done {i : Instr} {f : Byte → Status → Byte × Status} (s : State)
    (h : kindOf i.mnemonic i.operand = .rmw f) :
    ∃ ea, targetOf i s = .ok ea ∧ exec i s = .next
      (writeByte { done i s with p := (f (readByte s ea) s.p).2 } ea (f (readByte s ea) s.p).1) := by
  obtain ⟨ea, hea, he⟩ := exec_rmw s h
  have hd := retire_kindEffect_past i s 0 ea
  rw [h] at hd
  exact ⟨ea, hea, he.trans (congrArg _ hd)⟩

/-- An accumulator form leaves `done` with its flags, and its result in A (R83). -/
theorem exec_acc_done {i : Instr} {f : Byte → Status → Byte × Status} (s : State)
    (h : kindOf i.mnemonic i.operand = .acc f) :
    exec i s = .next { done i s with a := (f s.a s.p).1, p := (f s.a s.p).2 } := by
  have hd := retire_kindEffect_past i s 0 0
  rw [h] at hd
  exact (exec_acc s h).trans (congrArg _ hd)

/-! ## Shifts and rotates in arithmetic -/

theorem asl_eq (m : Byte) (c : Bool) : asl m c = (BitVec.ofNat 8 (2 * m.toNat % 256), bitOf m 7) :=
  Prod.ext (asl_fst m c) (getLsbD_eq_bitOf m 7)

theorem lsr_eq (m : Byte) (c : Bool) : lsr m c = (BitVec.ofNat 8 (m.toNat / 2), bitOf m 0) :=
  Prod.ext (lsr_fst m c) (getLsbD_eq_bitOf m 0)

theorem rol_eq (m : Byte) (c : Bool) :
    rol m c = (BitVec.ofNat 8 ((2 * m.toNat + carryNat c) % 256), bitOf m 7) :=
  Prod.ext (rol_fst m c) (getLsbD_eq_bitOf m 7)

theorem ror_eq (m : Byte) (c : Bool) :
    ror m c = (BitVec.ofNat 8 (m.toNat / 2 + 128 * carryNat c), bitOf m 0) :=
  Prod.ext (ror_fst m c) (getLsbD_eq_bitOf m 0)

/-- A shift that gives `r m` and shifts out `b m` sets C to the bit and N, Z by the result. -/
theorem shiftByte_of_eq {g : Byte → Bool → Byte × Bool} {r : Byte → Byte} {b : Byte → Bool} {p : Status}
    (hg : ∀ m, g m p.c = (r m, b m)) (m : Byte) : shiftByte g m p = (r m, withNZ { p with c := b m } (r m)) := by
  rw [shiftByte, hg, shiftFlags, setNZ_eq_withNZ]

/-- A shift or rotate that gives `r m` and shifts out `b m` works on A in its accumulator form and on the byte at its
address otherwise. -/
theorem exec_shift_done {i : Instr} {g : Byte → Bool → Byte × Bool} {r : Byte → Byte} {b : Byte → Bool} (s : State)
    (h : kindOf i.mnemonic i.operand = shiftKind i.operand g) (hg : ∀ m, g m s.p.c = (r m, b m)) :
    let p (m : Byte) : Status := withNZ { s.p with c := b m } (r m)
    if i.operand = .acc then exec i s = .next { done i s with a := r s.a, p := p s.a }
    else ∃ ea, targetOf i s = .ok ea ∧
      exec i s = .next (writeByte { done i s with p := p (readByte s ea) } ea (r (readByte s ea))) := by
  intro p
  split
  case isTrue ho =>
    rw [shiftKind, if_pos ho] at h
    simpa only [shiftByte_of_eq hg] using exec_acc_done s h
  case isFalse ho =>
    rw [shiftKind, if_neg ho] at h
    simpa only [shiftByte_of_eq hg] using exec_rmw_done s h

/-! ## Bytes that nothing is stored to -/

theorem firstStored_of_notMem {ws : List (Word × Byte)} {a : Word} (d : Byte) (h : a ∉ ws.map Prod.fst) :
    firstStored ws d a = d := by
  induction ws with
  | nil => rfl
  | cons w ws ih =>
    obtain ⟨hw, hws⟩ := not_or.mp (mt List.mem_cons.mpr h)
    rw [firstStored_cons, if_neg hw, ih hws]

/-- An instruction leaves every byte that it does not store. -/
theorem readByte_of_notMem_stored {i : Instr} {s t : State} {a : Word} (h : exec i s = .next t)
    (ha : a ∉ (storedBytes i s).map Prod.fst) : readByte t a = readByte s a := by
  rw [readByte_of_exec h, byteAfter_eq_firstStored, firstStored_of_notMem _ ha]

/-- A store or read-modify-write form stores at its effective address alone. -/
theorem stored_addresses_of_storesByte {i : Instr} {s : State} {ea : Word} (hs : storesByte i = true)
    (ht : targetOf i s = .ok ea) : (storedBytes i s).map Prod.fst = [ea] := by
  obtain ⟨r, h⟩ | ⟨f, h⟩ := kindOf_of_storesByte hs
  · rw [storedBytes_write h ht, List.map_singleton]
  · rw [storedBytes_rmw h ht, List.map_singleton]

/-- A push stores in its stack slots alone. -/
theorem stored_addresses_of_push {i : Instr} (s : State) (hp : pushCount i ≠ 0) :
    (storedBytes i s).map Prod.fst = (List.range (pushCount i)).map (stackSlot s) := by
  obtain rfl | rfl | ⟨w, rfl⟩ | rfl := pushCount_ne_zero_iff.mp hp <;> rfl

/-! ## The statements -/

/-- Settles O39: both are read-modify-write forms, whose byte and flags are put into arithmetic. -/
theorem incAndDecMemoryWrap : Obligations.IncAndDecMemoryWrap := by
  refine ⟨by decide, by decide, fun i s => ?_⟩
  simp only [← setNZ_eq_withNZ, ← add_one_eq_ofNat, ← sub_one_eq_ofNat]
  exact ⟨fun h => exec_rmw_done (f := incByte) s (congrArg (kindOf · i.operand) h),
    fun h => exec_rmw_done (f := decByte) s (congrArg (kindOf · i.operand) h)⟩

/-- Settles O40: each is of implied mode, and its effect on `done` is put into arithmetic. -/
theorem indexIncrementsAndDecrementsWrap : Obligations.IndexIncrementsAndDecrementsWrap := by
  refine ⟨by decide, by decide, fun s => ?_⟩
  simp only [← setNZ_eq_withNZ, ← add_one_eq_ofNat, ← sub_one_eq_ofNat]
  exact ⟨(exec_implied_done .inx s rfl :), (exec_implied_done .iny s rfl :), (exec_implied_done .dex s rfl :),
    (exec_implied_done .dey s rfl :)⟩

/-- Settles O41: the two forms of a shift, with the arithmetic of each of the four. -/
theorem shiftsAndRotatesMoveOneBitThroughCarry : Obligations.ShiftsAndRotatesMoveOneBitThroughCarry :=
  ⟨by decide, by decide, by decide, by decide, fun i s =>
    ⟨fun h => exec_shift_done s (congrArg (kindOf · i.operand) h) (asl_eq · s.p.c),
      fun h => exec_shift_done s (congrArg (kindOf · i.operand) h) (lsr_eq · s.p.c),
      fun h => exec_shift_done s (congrArg (kindOf · i.operand) h) (rol_eq · s.p.c),
      fun h => exec_shift_done s (congrArg (kindOf · i.operand) h) (ror_eq · s.p.c)⟩⟩

/-- Settles O54: an address an instruction does not store to keeps its byte, and the addresses stored to are the
effective address or the stack slots. -/
theorem storingInstructionsTouchOnlyTheirBytes : Obligations.StoringInstructionsTouchOnlyTheirBytes := by
  refine fun i s t h => ⟨fun hs ea hea a ha => ?_, fun hp a ha => ?_⟩
  · refine readByte_of_notMem_stored h ?_
    rwa [stored_addresses_of_storesByte hs hea, List.mem_singleton]
  · refine readByte_of_notMem_stored h ?_
    rw [stored_addresses_of_push s hp, List.mem_map]
    rintro ⟨k, hk, rfl⟩
    exact ha k (List.mem_range.mp hk) rfl

end Sys2Proof.Proofs
end

section
/-! The statements on control flow (spec/45_control_flow.md). A jump or call and a branch leave their effect on `done`;
the two pushes of JSR, the two pulls of RTS and the branch target are put into the arithmetic of the statements. -/

namespace Sys2Proof.Proofs

open Machine Safety Laws

/-! ## Jumps and calls at work on `done` -/

/-- A jump or call leaves its effect on `done`, at the target it resolves to. -/
theorem exec_jump_done {i : Instr} {f : Word → State → State} {w : Word} (s : State)
    (h : kindOf i.mnemonic i.operand = .jump f) (ht : targetOf i s = .ok w) : exec i s = .next (f w (done i s)) := by
  obtain ⟨target, htarget, he⟩ := exec_jump s h
  obtain rfl : w = target := Except.ok.inj (ht.symm.trans htarget)
  have hd := retire_kindEffect_past i s 0 w
  rw [h] at hd
  exact he.trans (congrArg _ hd)

/-- A word with the value `n` is `n` as a word. -/
theorem eq_ofNat_of_toNat_eq {w : Word} {n : Nat} (h : w.toNat = n) : w = BitVec.ofNat 16 n := by
  rw [← h, BitVec.ofNat_toNat, BitVec.setWidth_eq]

/-- The target of JMP (indirect) under either value of the parameter (R91). -/
theorem indirectTarget_eq_ofNat (pageWrap : Bool) (ptr : Word) (s : State) :
    indirectTarget pageWrap ptr s = BitVec.ofNat 16 (256 * (memRead s.mem
      (if pageWrap = true then ptr.toNat / 256 * 256 + (ptr.toNat + 1) % 256 else (ptr.toNat + 1) % 65536)).toNat
      + (memRead s.mem ptr.toNat).toNat) := by
  cases pageWrap with
  | false => exact eq_ofNat_of_toNat_eq (indirectTarget_false_toNat ptr s)
  | true => exact eq_ofNat_of_toNat_eq (indirectTarget_true_toNat ptr s)

/-! ## Two pushes and two pulls -/

theorem sub_two_eq_ofNat (b : Byte) : b - 1 - 1 = BitVec.ofNat 8 ((b.toNat + 254) % 256) := by
  rw [BitVec.sub_sub]
  apply BitVec.eq_of_toNat_eq
  simp [BitVec.toNat_sub, Nat.add_comm]

theorem add_two_eq_ofNat (b : Byte) : b + 1 + 1 = BitVec.ofNat 8 ((b.toNat + 2) % 256) := by
  rw [BitVec.add_assoc]
  apply BitVec.eq_of_toNat_eq
  simp

theorem sub_two_add_two (b : Byte) : b - 1 - 1 + 1 + 1 = b := by
  rw [BitVec.sub_add_cancel, BitVec.sub_add_cancel]

/-- The word two pulls deliver, also where `SP` wraps (R172). -/
theorem pulled16_toNat (s : State) :
    (pulled16 s).toNat = 256 * (stackByte s 2).toNat + (stackByte s 1).toNat := by
  have hhi : pulled8 (pull8 s) = stackByte s 2 := by
    rw [pulled8, stackByte_eq_readByte, pull8_sp, BitVec.add_assoc]
    rfl
  rw [pulled16, hhi, pulled8_eq_stackByte, wordOf_toNat, Nat.mul_comm]

/-- Two pulls give back the word pushed, also across the wrap of the stack pointer. -/
@[simp] theorem pulled16_push16 (s : State) (w : Word) : pulled16 (push16 s w) = w := by
  obtain ⟨h10, -, -⟩ := sub_ne s.sp
  have hlo : pulled8 (push16 s w) = loByte w := pulled8_push8 ..
  have hhi : pulled8 (pull8 (push16 s w)) = hiByte w := by
    have hr : pulled8 (pull8 (push16 s w)) = readByte (push16 s w) (stackAddr (s.sp - 1 - 1 + 1 + 1)) := rfl
    rw [hr, sub_two_add_two, readByte_push16, if_neg (ne_of_eq_stackAddr h10.symm rfl), if_pos rfl]
  rw [pulled16, hlo, hhi, wordOf_hi_lo]

/-! ## JSR and RTS -/

/-- JSR pushes the address of its own last byte and goes to its operand (R171, decision D20). -/
theorem exec_jsr (w : Word) (s : State) :
    exec (.jsr w) s = .next
      { done (.jsr w) s with pc := w, sp := s.sp - 1 - 1, mem := (push16 s (s.pc + 2)).mem } := by
  have hpc : s.pc + 3 - 1 = s.pc + 2 := by
    rw [BitVec.sub_eq_iff_eq_add, BitVec.add_assoc]
    rfl
  rw [← hpc]
  exact exec_jump_done (i := .jsr w) s rfl rfl

/-- RTS goes one past the word it pulls (R172, decision D20). -/
theorem exec_rts (s : State) : exec .rts s = .next { done .rts s with pc := pulled16 s + 1, sp := s.sp + 1 + 1 } :=
  exec_implied_done .rts s rfl

/-- Every byte of memory after JSR: the return address in its two stack slots. -/
theorem readByte_of_exec_jsr {w : Word} {s t : State} (h : exec (.jsr w) s = .next t) (a : Word) :
    readByte t a =
      if a = stackSlot s 0 then hiByte (s.pc + 2) else if a = stackSlot s 1 then loByte (s.pc + 2)
      else readByte s a := by
  rw [readByte_of_exec h, byteAfter_eq_firstStored, storedBytes_jsr, ← stackSlot_zero, ← stackSlot_one]
  simp only [firstStored_cons, firstStored_nil]

theorem stackSlot_one_ne_zero (s : State) : stackSlot s 1 ≠ stackSlot s 0 := by
  obtain ⟨h10, -, -⟩ := sub_ne s.sp
  exact stackSlot_zero s ▸ ne_of_eq_stackAddr h10 (stackSlot_one s)

/-- RTS after JSR: the word pulled is the one pushed, and `SP` is as before. -/
theorem exec_rts_after_jsr {w : Word} {s t : State} (h : exec (.jsr w) s = .next t) :
    exec .rts t = .next { s with pc := s.pc + 3, cycles := s.cycles + 12, life := .running, mem := t.mem } := by
  have ht := Host.Outcome.next.inj (h.symm.trans (exec_jsr w s))
  have hpulled : pulled16 t = s.pc + 2 := ht ▸ pulled16_push16 s (s.pc + 2)
  have hpc : s.pc + 2 + 1 = s.pc + 3 := BitVec.add_assoc ..
  rw [exec_rts, hpulled, hpc, ht, done, cost_of_none _ rfl, done, cost_of_none s rfl]
  simp only [sub_two_add_two]
  rfl

/-! ## Branches -/

/-- The instructions of relative mode are the branches, of 2 base cycles. -/
theorem branch_of_rel {i : Instr} (h : i.operand.mode = .rel) :
    (tableRow i).cycles = 2 ∧ ∃ cond, kindOf i.mnemonic i.operand = .branch cond := by
  cases i
  case bcc | bcs | beq | bne | bmi | bpl | bvc | bvs => exact ⟨rfl, _, rfl⟩
  all_goals cases h

/-- A branch leaves `done` with `PC` on its target when it is taken (R173 to R180). -/
theorem exec_rel {i : Instr} {o : Byte} (s : State) (ho : i.operand = .rel o) :
    exec i s = .next { done i s with pc := if taken i s = true then s.pc + 2 + sext16 o else s.pc + 2 } := by
  obtain ⟨-, cond, hk⟩ := branch_of_rel (i := i) (by rw [ho]; rfl)
  rw [exec_branch s hk, branch_cond_eq_taken s hk, operandOf, ho]
  rfl

/-- The cost of a branch: 2, and where it is taken 1 more inside the page of the next instruction and 2 more to
another page (R181, decision D11). -/
theorem cost_rel {i : Instr} {o : Byte} (s : State) (ho : i.operand = .rel o) :
    cost i s = 2 + if taken i s = true then
      (if (s.pc + 2).toNat / 256 = (s.pc + 2 + sext16 o).toNat / 256 then 1 else 2) else 0 := by
  obtain ⟨hcycles, cond, hk⟩ := branch_of_rel (i := i) (by rw [ho]; rfl)
  have hpen := penalty_of_kind i
  rw [hk] at hpen
  have hcrossed : (operandOf i s).crossed = pageCrossed (s.pc + 2) (s.pc + 2 + sext16 o) := by
    rw [operandOf, ho]
    rfl
  rw [cost_of_row s (lookup_base i), hpen, hcycles, hcrossed, pageCrossed_eq]
  generalize (s.pc + 2).toNat / 256 = nextPage, (s.pc + 2 + sext16 o).toNat / 256 = targetPage
  cases taken i s with
  | false => rfl
  | true => by_cases hp : nextPage = targetPage <;> simp [hp]

/-- The target of a branch, as the sum of `pc` and the signed offset mod 65536 (R94). -/
theorem add_sext16_eq_ofInt (pc : Word) (o : Byte) : pc + sext16 o = BitVec.ofInt 16 (pc.toNat + o.toInt) := by
  rw [BitVec.ofInt_add, BitVec.ofInt_natCast, BitVec.ofNat_toNat, BitVec.setWidth_eq]
  rfl

/-! ## The statements -/

/-- Settles O42: both forms leave `done` with `PC` at the target they resolve to. -/
theorem jumpGoesToTheTarget : Obligations.JumpGoesToTheTarget := by
  refine ⟨by decide, fun s w => ⟨exec_jump_done (i := .jmpAbs w) s rfl rfl, ?_⟩⟩
  rw [← indirectTarget_eq_ofNat]
  exact execIn_jmpInd Params.standard w s

/-- Settles O43: JSR is two pushes and RTS two pulls, which give back the word pushed. -/
theorem jsrPushesItsLastAddressAndRtsReturns : Obligations.JsrPushesItsLastAddressAndRtsReturns := by
  refine ⟨by decide, fun s w => ⟨⟨_, exec_jsr w s, ?frame, ?hi, ?lo, fun a h0 h1 => ?rest⟩, ?rts, ?pair⟩⟩
  case frame => rw [← sub_two_eq_ofNat]
  case hi =>
    rw [readByte_of_exec_jsr (exec_jsr w s), if_pos rfl, hiByte_toNat, BitVec.toNat_add]
    rfl
  case lo =>
    rw [readByte_of_exec_jsr (exec_jsr w s), if_neg (stackSlot_one_ne_zero s), if_pos rfl, loByte_toNat,
      BitVec.toNat_add]
    exact Nat.mod_mod_of_dvd _ (by decide)
  case rest => rw [readByte_of_exec_jsr (exec_jsr w s), if_neg h0, if_neg h1]
  case rts =>
    rw [exec_rts, ← add_two_eq_ofNat, BitVec.ofNat_add, ← eq_ofNat_of_toNat_eq (pulled16_toNat s)]
    rfl
  case pair => exact ⟨_, _, exec_jsr w s, exec_rts_after_jsr (exec_jsr w s), rfl⟩

/-- Settles O45: each branch is taken when its flag has the value its mnemonic names. -/
theorem branchesGoToTheTargetWhenTheirFlagSays : Obligations.BranchesGoToTheTargetWhenTheirFlagSays := by
  refine ⟨by decide, fun i s o cond h => ?_⟩
  obtain ⟨ho, ht⟩ : i.operand = .rel o ∧ taken i s = cond := by
    simp only [List.mem_cons, List.not_mem_nil, or_false, Prod.mk.injEq] at h
    obtain ⟨rfl, rfl⟩ | ⟨rfl, rfl⟩ | ⟨rfl, rfl⟩ | ⟨rfl, rfl⟩ | ⟨rfl, rfl⟩ | ⟨rfl, rfl⟩ | ⟨rfl, rfl⟩ | ⟨rfl, rfl⟩ := h
    all_goals simp [taken, Instr.mnemonic, Instr.operand]
  have hnext : BitVec.ofNat 16 (s.pc.toNat + 2) = s.pc + 2 := by
    rw [BitVec.ofNat_add, BitVec.ofNat_toNat, BitVec.setWidth_eq]
    rfl
  simp only [hnext, ← add_sext16_eq_ofInt]
  rw [exec_rel s ho, done, cost_rel s ho, ht, ← Nat.add_assoc]

end Sys2Proof.Proofs
end

section
/-! The statements on the flag and system instructions (spec/46_flag_system.md). BRK, IRQ and NMI are one interrupt
entry, whose memory is put into the terms of `Entered`; RTI is put into arithmetic and so undoes whatever was
`Entered`. -/

namespace Sys2Proof.Proofs

open Machine Safety Laws

/-! ## The interrupt entry -/

theorem sub_three_eq (b : Byte) : b - 1 - 1 - 1 = b - 3 := by
  rw [BitVec.sub_sub, BitVec.sub_sub]
  rfl

/-- An entry through a vector above the stack page leaves what R223 says (60_exceptions.md). -/
theorem entered_interruptEntry {vector : Word} (s : State) (b : Bool) (hv : 512 ≤ vector.toNat)
    (hv1 : (vector + 1).toNat = vector.toNat + 1) :
    Entered s (interruptEntry vector b s) s.pc b vector.toNat := by
  obtain ⟨h10, h20, h21⟩ := sub_ne s.sp
  simp only [Entered, stackSlot_zero, stackSlot_one, stackSlot_two]
  refine ⟨interruptEntry_a .., interruptEntry_x .., interruptEntry_y .., ?sp, interruptEntry_p .., ?pc, ?hi, ?lo,
    ?status, fun addr h0 h1 h2 => ?rest⟩
  case sp => rw [interruptEntry_sp, sub_three_eq]
  case pc => rw [interruptEntry_pc _ _ _ hv (by omega), readWord_toNat, readByte, readByte, hv1]
  case hi =>
    rw [readByte_interruptEntry, if_neg (ne_of_eq_stackAddr h20.symm rfl), if_neg (ne_of_eq_stackAddr h10.symm rfl),
      if_pos rfl, hiByte_toNat]
  case lo =>
    rw [readByte_interruptEntry, if_neg (ne_of_eq_stackAddr h21.symm rfl), if_pos rfl, loByte_toNat]
  case status => rw [readByte_interruptEntry, if_pos rfl, pByte_toNat]
  case rest => rw [readByte_interruptEntry, if_neg h2, if_neg h1, if_neg h0]

/-- BRK enters its handler whatever I is, to resume two past its own address (R198, decision D19). `Entered` reads none
of the fields in which the state that BRK pushes from differs from `s`. -/
theorem brk_enters (s : State) :
    ∃ t, exec .brk s = .next t ∧ Entered s t (s.pc + 2) true 0xFFFE ∧
      t.cycles = s.cycles + 7 ∧ t.life = .running := by
  have hpc : s.pc + 1 + 1 = s.pc + 2 := BitVec.add_assoc ..
  have hentry : Entered s _ (s.pc + 1 + 1) true 0xFFFE :=
    entered_interruptEntry (vector := irqVector) (advancePc 1 (done .brk s)) true (by decide) (by decide)
  refine ⟨_, exec_implied_done .brk s rfl, hpc ▸ hentry, ?_, interruptEntry_life ..⟩
  rw [interruptEntry_cycles, advancePc_cycles, done, cost_of_none s rfl]
  rfl

/-- In Ready and Running a guarded operation is done. -/
theorem guarded_of_live {s : State} (hl : Live s) (f : State → State) : guarded s f = .next (f s) := by
  unfold guarded
  obtain h | h := hl <;> rw [h]

/-- An IRQ is ignored while I is 1 (60_exceptions.md R221, decision D15). -/
theorem interrupt_of_i_set {s : State} (hl : Live s) (hi : s.p.i = true) : interrupt s = .next s := by
  rw [interrupt, guarded_of_live hl, if_pos hi]

/-- A request that is taken is an entry with bit 4 = 0, at 7 cycles (60_exceptions.md R223, decisions D5 and D14). -/
theorem entered_of_request {vector : Word} {s t : State} (ht : t = tick entryCycles (interruptEntry vector false s))
    (hv : 512 ≤ vector.toNat) (hv1 : (vector + 1).toNat = vector.toNat + 1) :
    Entered s t s.pc false vector.toNat ∧ t.cycles = s.cycles + 7 ∧ t.life = s.life := by
  subst ht
  refine ⟨entered_interruptEntry s false hv hv1, ?_, ?_⟩
  · rw [tick_cycles, interruptEntry_cycles, entryCycles]
  · rw [tick_life, interruptEntry_life]

/-- An IRQ enters its handler while I is 0 (60_exceptions.md R221). -/
theorem interrupt_enters {s : State} (hl : Live s) (hi : s.p.i = false) :
    ∃ t, interrupt s = .next t ∧ Entered s t s.pc false 0xFFFE ∧ t.cycles = s.cycles + 7 ∧ t.life = s.life := by
  refine ⟨_, ?_, entered_of_request (vector := irqVector) rfl (by decide) (by decide)⟩
  rw [interrupt, guarded_of_live hl, if_neg (by simp [hi])]

/-- An NMI enters its handler whatever I is (60_exceptions.md R222). -/
theorem nonMaskableInterrupt_enters {s : State} (hl : Live s) :
    ∃ t, nonMaskableInterrupt s = .next t ∧ Entered s t s.pc false 0xFFFA ∧ t.cycles = s.cycles + 7 ∧
      t.life = s.life :=
  ⟨_, guarded_of_live hl _, entered_of_request (vector := nmiVector) rfl (by decide) (by decide)⟩

/-! ## The return from an interrupt -/

theorem add_three_eq_ofNat (b : Byte) : b + 1 + 1 + 1 = BitVec.ofNat 8 ((b.toNat + 3) % 256) := by
  rw [BitVec.add_assoc, BitVec.add_assoc]
  apply BitVec.eq_of_toNat_eq
  simp

/-- A pull moves the byte `k + 1` above the stack pointer to `k` above it. -/
theorem stackByte_pull8 (s : State) (k : Nat) : stackByte (pull8 s) k = stackByte s (k + 1) := by
  rw [stackByte_eq_readByte, stackByte_eq_readByte, pull8_sp, BitVec.add_assoc, Nat.add_comm k 1, BitVec.ofNat_add]
  rfl

/-- RTI pulls the status byte and then `PC`, here in arithmetic (R199, decision D6). -/
theorem exec_rti (s : State) : exec .rti s = .next { done .rti s with
    p := loaded s.p (stackByte s 1)
    pc := BitVec.ofNat 16 (256 * (stackByte s 3).toNat + (stackByte s 2).toNat)
    sp := BitVec.ofNat 8 ((s.sp.toNat + 3) % 256) } := by
  rw [← stackByte_pull8 s 1, ← stackByte_pull8 s 2, ← eq_ofNat_of_toNat_eq (pulled16_toNat (pull8 s)),
    ← add_three_eq_ofNat, ← pLoad_eq_loaded, ← pulled8_eq_stackByte]
  exact exec_implied_done .rti s rfl

/-- What lies `k` above the stack pointer after `n` pushes is in the slot of the push `n - k`. -/
theorem stackByte_of_sp_sub {s t : State} {n k : Nat} (h : t.sp = s.sp - BitVec.ofNat 8 n) (hk : k ≤ n)
    (hn : n ≤ 256) : stackByte t k = readByte t (stackSlot s (n - k)) := by
  rw [stackByte_eq_readByte, stackSlot_eq_stackAddr s (by omega), h]
  congr 2
  apply BitVec.eq_of_toNat_eq
  simp only [BitVec.toNat_add, BitVec.toNat_sub, BitVec.toNat_ofNat]
  omega

/-- RTI after an interrupt entry gives back all but memory, `cycles` and `life`, at the address pushed. -/
theorem exec_rti_of_entered {s t : State} {resume : Word} {b : Bool} {vector : Nat}
    (h : Entered s t resume b vector) :
    exec .rti t = .next { s with pc := resume, cycles := t.cycles + 6, life := .running, mem := t.mem } := by
  obtain ⟨ha, hx, hy, hsp, hp, -, hhi, hlo, hstatus, -⟩ := h
  have hflags : loaded t.p (stackByte t 1) = s.p := by
    have hpushed : stackByte t 1 = pByte s.p b :=
      BitVec.eq_of_toNat_eq (by rw [stackByte_of_sp_sub hsp (by decide) (by decide), hstatus, pByte_toNat])
    rw [hpushed, ← pLoad_eq_loaded, pLoad_pByte, hp]
  have hpc : BitVec.ofNat 16 (256 * (stackByte t 3).toNat + (stackByte t 2).toNat) = resume := by
    rw [stackByte_of_sp_sub hsp (by decide) (by decide), stackByte_of_sp_sub hsp (by decide) (by decide), hhi, hlo,
      Nat.div_add_mod, BitVec.ofNat_toNat, BitVec.setWidth_eq]
  have hsp3 : BitVec.ofNat 8 ((t.sp.toNat + 3) % 256) = s.sp := by
    rw [← add_three_eq_ofNat, hsp, ← sub_three_eq]
    simp only [BitVec.sub_add_cancel]
  rw [exec_rti, hflags, hpc, hsp3, done, cost_of_none t rfl, ha, hx, hy]
  rfl

/-! ## ADC and SBC under any parameters -/

/-- ADC leaves its effect on `done`, with the `dec_adc` of the parameters. -/
theorem execIn_adc_done (p : Params) {i : Instr} (s : State) (h : i.mnemonic = .adc) :
    ∃ M, readOperand i s = .ok M ∧ execIn p i s = .next (arithEffect (adcWith p.decAdc) M (done i s)) :=
  execIn_adc p s h

/-- SBC leaves on `done` the effect of ADC on the complemented operand, with the `dec_sbc` of the parameters. -/
theorem execIn_sbc_done (p : Params) {i : Instr} (s : State) (h : i.mnemonic = .sbc) :
    ∃ M, readOperand i s = .ok M ∧
      execIn p i s = .next (arithEffect (adcWith fun a _ c => p.decSbc a M c) (M ^^^ 0xFF) (done i s)) :=
  execIn_sbc p s h

/-- With D = 0 the adder does not use `DECIMAL`. -/
theorem arithEffect_adcWith_of_binary (dec dec' : Byte → Byte → Bool → DecimalResult) (m : Byte) {s : State}
    (hd : s.p.d = false) : arithEffect (adcWith dec) m s = arithEffect (adcWith dec') m s := by
  rw [arithEffect_adcWith, arithEffect_adcWith, if_pos hd, if_pos hd]

/-- Two results of an instruction are equal when they are the same function of the operand it reads. -/
theorem eq_of_readOperand {i : Instr} {s : State} {r r' : Result} {f f' : Byte → State}
    (h : ∃ M, readOperand i s = .ok M ∧ r = .next (f M)) (h' : ∃ M, readOperand i s = .ok M ∧ r' = .next (f' M))
    (hf : ∀ M, f M = f' M) : r = r' := by
  obtain ⟨M, hM, rfl⟩ := h
  obtain ⟨M', hM', rfl⟩ := h'
  obtain rfl : M = M' := Except.ok.inj (hM.symm.trans hM')
  rw [hf]

/-- With D = 0 ADC and SBC use no parameter. -/
theorem execIn_of_binary (p : Params) {i : Instr} {s : State} (hd : s.p.d = false)
    (h : i.mnemonic = .adc ∨ i.mnemonic = .sbc) : execIn p i s = exec i s := by
  obtain h | h := h
  · exact eq_of_readOperand (execIn_adc_done p s h) (exec_adc_done s h) fun _ =>
      arithEffect_adcWith_of_binary _ _ _ hd
  · exact eq_of_readOperand (execIn_sbc_done p s h) (exec_sbc_done s h) fun _ =>
      arithEffect_adcWith_of_binary _ _ _ hd

/-- N and Z after ADC and SBC with D = 0, by the pseudocode of R134 and R135. -/
theorem nz_of_exec_binary {i : Instr} {s t : State} (hd : s.p.d = false)
    (h : i.mnemonic = .adc ∨ i.mnemonic = .sbc) (ht : exec i s = .next t) :
    t.p.n = decide (128 ≤ t.a.toNat) ∧ t.p.z = decide (t.a.toNat = 0) := by
  obtain ⟨-, -, hcode⟩ := adcAndSbcFollowTheirPseudocode
  obtain ⟨hadc, hsbc⟩ := hcode i s
  obtain ⟨M, -, he⟩ | ⟨M, -, he⟩ := h.imp hadc hsbc
  all_goals
    simp only [if_pos hd] at he
    obtain rfl := Host.Outcome.next.inj (he.symm.trans ht)
    exact ⟨rfl, rfl⟩

/-! ## Who changes D and V -/

/-- D changes only by its four writers (10_state.md R18). -/
theorem mnemonic_mem_of_d_changed {i : Instr} {s t : State} (h : exec i s = .next t) (hd : t.p.d ≠ s.p.d) :
    i.mnemonic ∈ [.cld, .sed, .plp, .rti] := by
  obtain ⟨-, -, -, hframe, -, -⟩ := flagsChangeOnlyByTheirWriters i s t h
  exact by_contra fun hm => hd (hframe hm)

/-- V changes only by its six writers (10_state.md R18). -/
theorem mnemonic_mem_of_v_changed {i : Instr} {s t : State} (h : exec i s = .next t) (hv : t.p.v ≠ s.p.v) :
    i.mnemonic ∈ [.adc, .sbc, .bit, .clv, .plp, .rti] := by
  obtain ⟨-, hframe, -, -, -, -⟩ := flagsChangeOnlyByTheirWriters i s t h
  exact by_contra fun hm => hv (hframe hm)

/-- The flags after an instruction of implied mode that is a function of the flags. -/
theorem p_of_exec_setP {i : Instr} {s t : State} {f : Status → Status} (h : exec i s = .next t)
    (hk : kindOf i.mnemonic i.operand = .implied fun u => u.setP (f u.p)) : t.p = f s.p := by
  rw [Host.Outcome.next.inj (h.symm.trans (exec_implied_done i s hk))]
  rfl

theorem d_of_exec_cld {i : Instr} {s t : State} (hm : i.mnemonic = .cld) (h : exec i s = .next t) : t.p.d = false :=
  congrArg Status.d (p_of_exec_setP (f := fun p => { p with d := false }) h (congrArg (kindOf · i.operand) hm))

theorem d_of_exec_sed {i : Instr} {s t : State} (hm : i.mnemonic = .sed) (h : exec i s = .next t) : t.p.d = true :=
  congrArg Status.d (p_of_exec_setP (f := fun p => { p with d := true }) h (congrArg (kindOf · i.operand) hm))

theorem v_of_exec_clv {i : Instr} {s t : State} (hm : i.mnemonic = .clv) (h : exec i s = .next t) : t.p.v = false :=
  congrArg Status.v (p_of_exec_setP (f := fun p => { p with v := false }) h (congrArg (kindOf · i.operand) hm))

/-! ## The statements -/

/-- Settles O46: each is of implied mode; the state CLI or SEI leaves is Running with the I it wrote. -/
theorem flagInstructionsWriteOneFlagAndNopNone : Obligations.FlagInstructionsWriteOneFlagAndNopNone := by
  refine ⟨by decide, fun s => ?_⟩
  have hcli : exec .cli s = .next { done .cli s with p := { s.p with i := false } } := exec_implied_done .cli s rfl
  have hsei : exec .sei s = .next { done .sei s with p := { s.p with i := true } } := exec_implied_done .sei s rfl
  refine ⟨exec_implied_done .clc s rfl, exec_implied_done .sec s rfl, hcli, hsei, exec_implied_done .nop s rfl,
    ?cli, ?sei, fun hl hu t ht => ?unmapped⟩
  case cli =>
    obtain ⟨u, hu, hentry, -, -⟩ := interrupt_enters (live_of_exec hcli) rfl
    exact ⟨_, u, hcli, hu, hentry⟩
  case sei =>
    obtain ⟨u, hu, hnmi, -, -⟩ := nonMaskableInterrupt_enters (live_of_exec hsei)
    obtain ⟨v, hv, hbrk, -, -⟩ := brk_enters { done .sei s with p := { s.p with i := true } }
    exact ⟨_, u, v, hsei, interrupt_of_i_set (live_of_exec hsei) rfl, hu, hnmi, hv, hbrk⟩
  case unmapped => cases (stepIn_of_unmapped hl rfl hu).symm.trans ht

/-- Settles O47: CLD leaves D = 0, where no parameter is used and the exact arithmetic of O37 holds; SED leaves D = 1,
where the adder is `DECIMAL`. D and V change only by their writers, of which SED, CLD and CLV each write one value. -/
theorem decimalAndOverflowFlagInstructions : Obligations.DecimalAndOverflowFlagInstructions := by
  refine ⟨by decide, fun s => ⟨exec_implied_done .cld s rfl, exec_implied_done .sed s rfl,
    exec_implied_done .clv s rfl⟩, fun p i s t ht => ?binary, fun p i s t ht => ?decimal, fun i s t h => ?writers⟩
  case binary =>
    have hd : t.p.d = false := d_of_exec_cld rfl ht
    obtain ⟨hadc, hsbc⟩ := binaryAddAndSubtractAreExactArithmetic i t hd
    refine ⟨fun hm => ?_, fun hm => ?_⟩
    · obtain ⟨M, u, hM, hu, ha, hc, hv⟩ := hadc hm
      exact ⟨M, u, hM, (execIn_of_binary p hd (.inl hm)).trans hu, ha, hc, hv, nz_of_exec_binary hd (.inl hm) hu⟩
    · obtain ⟨M, u, hM, hu, ha, hc, hv⟩ := hsbc hm
      exact ⟨M, u, hM, (execIn_of_binary p hd (.inr hm)).trans hu, ha, hc, hv, nz_of_exec_binary hd (.inr hm) hu⟩
  case decimal =>
    have hd : ¬ t.p.d = false := by simp [d_of_exec_sed rfl ht]
    refine ⟨fun hm => ?_, fun hm => ?_⟩
    · obtain ⟨M, hM, he⟩ := execIn_adc_done p t hm
      exact ⟨M, hM, he.trans (congrArg _ ((arithEffect_adcWith ..).trans (if_neg hd)))⟩
    · obtain ⟨M, hM, he⟩ := execIn_sbc_done p t hm
      exact ⟨M, hM, he.trans (congrArg _ ((arithEffect_adcWith ..).trans (if_neg hd)))⟩
  case writers =>
    refine ⟨fun hs ht => ?_, fun hs ht => ?_, fun hs ht => ?_⟩
    · have hsed : i.mnemonic ≠ .sed := fun hm => by simp [d_of_exec_sed hm h] at ht
      simpa [hsed] using mnemonic_mem_of_d_changed h (by simp [hs, ht])
    · have hcld : i.mnemonic ≠ .cld := fun hm => by simp [d_of_exec_cld hm h] at ht
      simpa [hcld] using mnemonic_mem_of_d_changed h (by simp [hs, ht])
    · have hclv : i.mnemonic ≠ .clv := fun hm => by simp [v_of_exec_clv hm h] at ht
      simpa [hclv] using mnemonic_mem_of_v_changed h (by simp [hs, ht])

/-- Settles O48: BRK is an interrupt entry, after the table's 7 cycles. -/
theorem brkEntersTheIrqHandler : Obligations.BrkEntersTheIrqHandler := ⟨by decide, brk_enters⟩

/-- Settles O49: by RTI in arithmetic. -/
theorem rtiRestoresFlagsAndPc : Obligations.RtiRestoresFlagsAndPc := ⟨by decide, exec_rti⟩

/-- Settles O52: RTI undoes what was `Entered`, and 7 + 6 cycles are 13. -/
theorem rtiUndoesEveryInterruptEntry : Obligations.RtiUndoesEveryInterruptEntry := by
  refine fun s => ⟨?brk, fun hl hi => ?irq, fun hl => ?nmi⟩
  case brk =>
    obtain ⟨t, ht, hentry, hc, -⟩ := brk_enters s
    exact ⟨t, _, ht, exec_rti_of_entered hentry, by rw [hc]⟩
  case irq =>
    obtain ⟨t, ht, hentry, hc, -⟩ := interrupt_enters hl hi
    exact ⟨t, _, ht, exec_rti_of_entered hentry, by rw [hc]⟩
  case nmi =>
    obtain ⟨t, ht, hentry, hc, -⟩ := nonMaskableInterrupt_enters hl
    exact ⟨t, _, ht, exec_rti_of_entered hentry, by rw [hc]⟩

end Sys2Proof.Proofs
end

section
/-! The statements on the host's side of the machine (spec/60_exceptions.md, spec/70_reset_and_hazards.md): what a
lifecycle state refuses, what a reset makes of the memory, the loaded image, interrupts that follow each other, and
the invariant along every run. -/

namespace Sys2Proof.Proofs

open Machine Safety Laws

/-! ## Refusals -/

/-- The operations without a meaning before the first reset and after a fault change no state (R214, decision D16). -/
theorem hostOp_refused {op : HostOp} {s : State} {q : Refusal} (hop : op ∈ [.step, .interrupt, .nonMaskableInterrupt])
    (h : s.life = .uninitialized ∧ q = .uninitialized ∨ s.life = .faulted ∧ q = .faulted) :
    hostOp op s = ⟨s, .refused q⟩ := by
  have hguarded (f : State → State) : guarded s f = .refused q := by
    unfold guarded
    obtain ⟨hl, rfl⟩ | ⟨hl, rfl⟩ := h <;> rw [hl]
  have hstep : step s = .refused q := by
    rw [step_eq]
    obtain ⟨hl, rfl⟩ | ⟨hl, rfl⟩ := h <;> rw [hl]
  simp only [List.mem_cons, List.not_mem_nil, or_false] at hop
  obtain rfl | rfl | rfl := hop
  · rw [hostOp_step, hstep, replyOf]
  · rw [hostOp_interrupt, interrupt, hguarded, replyOf]
  · rw [hostOp_nmi, nonMaskableInterrupt, hguarded, replyOf]

/-- Only a reset ends Uninitialized (10_state.md R21). -/
theorem hostOp_life_uninitialized {op : HostOp} {s : State} (hop : op ≠ .reset) (hl : s.life = .uninitialized) :
    (hostOp op s).state.life = .uninitialized := by
  cases op with
  | reset => exact absurd rfl hop
  | step | interrupt | nonMaskableInterrupt => rw [hostOp_refused (by simp) (.inl ⟨hl, rfl⟩), hl]
  | write | writeWord => exact hl

/-! ## The invariant -/

/-- Every host operation writes memory through the memory port alone, so it keeps the canonical form. -/
theorem hostOp_mem_wf (op : HostOp) {s : State} (h : Memory.wf s.mem = true) :
    Memory.wf (hostOp op s).state.mem = true := by
  have hentry {t : State} {vector : Word} (ht : t = s ∨ t = tick entryCycles (interruptEntry vector false s)) :
      Memory.wf t.mem = true := by
    obtain rfl | rfl := ht
    · exact h
    · exact interruptEntry_mem_wf h vector false
  cases op with
  | reset => exact h
  | step =>
    rw [hostOp_step]
    cases hs : step s with
    | next t => exact step_mem_wf hs h
    | fault f => exact h
    | refused q => exact h
  | interrupt => exact hentry (hostOp_interrupt_state s)
  | nonMaskableInterrupt => exact hentry (hostOp_nmi_state s)
  | write addr v => exact writeByte_mem_wf h addr v
  | writeWord addr v => exact writeByte_mem_wf (writeByte_mem_wf h addr _) _ _

/-- A reset establishes the invariant's facts on Break and cycles; any other operation keeps them, and it can only
leave a state that has had a first reset where it started from one. -/
theorem hostOp_keeps_inv (op : HostOp) (s : State) (h : Inv s) : Inv (hostOp op s).state := by
  obtain ⟨hw, hstarted⟩ := h
  by_cases hop : op = .reset
  · exact hop ▸ inv_resetOp hw
  · refine ⟨hostOp_mem_wf op hw, fun hl => ?_⟩
    have hlife : s.life ≠ .uninitialized := mt (hostOp_life_uninitialized hop) hl
    obtain ⟨hb, hc⟩ := hstarted hlife
    exact ⟨(hostOp_later hop s).b.trans hb, Nat.le_trans hc (hostOp_later hop s).cycles⟩

/-! ## Reset -/

/-- The reset state is a function of the memory alone (R241). -/
theorem resetOp_congr {s t : State} (h : s.mem = t.mem) : resetOp s = resetOp t := by
  simp only [resetOp, readWord, readByte, h]

/-- A word as the spec writes it, `lo | (hi << 8)`. -/
theorem wordOf_eq_or (h l : Byte) : wordOf h l = (l.setWidth 16 ||| (h.setWidth 16 <<< 8)) := by
  apply BitVec.eq_of_getLsbD_eq
  intro k hk
  rw [wordOf, BitVec.getLsbD_append]
  by_cases hk8 : k < 8
  · simp [hk, hk8]
  · simp [hk, hk8, BitVec.getLsbD_of_ge l k (by omega)]

/-! ## Ranges of memory -/

theorem add_one_add_ofNat (addr : Word) (k : Nat) : addr + 1 + BitVec.ofNat 16 k = addr + BitVec.ofNat 16 (k + 1) := by
  rw [BitVec.add_assoc, Nat.add_comm k 1, BitVec.ofNat_add]
  rfl

/-- An address that lies `k` above another, mod 65536, is another one. -/
theorem add_ofNat_ne_self (addr : Word) {k : Nat} (h0 : 0 < k) (hk : k < 65536) : addr + BitVec.ofNat 16 k ≠ addr := by
  intro h
  have := congrArg BitVec.toNat h
  rw [BitVec.toNat_add, BitVec.toNat_ofNat] at this
  omega

/-- Byte `k` of a range of memory (10_state.md R26). -/
theorem getElem_readBytes (n : Nat) (addr : Word) (s : State) (k : Nat) (h : k < (readBytes n addr s).length) :
    (readBytes n addr s)[k] = readByte s (addr + BitVec.ofNat 16 k) := by
  induction n generalizing addr k with
  | zero => cases h
  | succ n ih =>
    cases k with
    | zero => exact congrArg (readByte s) (BitVec.add_zero addr).symm
    | succ k =>
      rw [← add_one_add_ofNat]
      exact ih (addr + 1) k (Nat.lt_of_succ_lt_succ h)

/-- A byte sequence leaves every address alone that it does not cover. -/
theorem readByte_writeBytes_of_ne (bs : List Byte) (addr : Word) (s : State) {a : Word}
    (h : ∀ k, k < bs.length → addr + BitVec.ofNat 16 k ≠ a) : readByte (writeBytes bs addr s) a = readByte s a := by
  induction bs generalizing addr s with
  | nil => rfl
  | cons b bs ih =>
    have hrest : ∀ k, k < bs.length → addr + 1 + BitVec.ofNat 16 k ≠ a := fun k hk =>
      add_one_add_ofNat addr k ▸ h (k + 1) (Nat.succ_lt_succ hk)
    have hfirst : a ≠ addr := by simpa using (h 0 (Nat.succ_pos _)).symm
    rw [writeBytes, ih _ _ hrest, readByte_writeByte, if_neg hfirst]

/-- Byte `k` of a sequence that fits the address space lies `k` above its start, mod 65536. -/
theorem readByte_writeBytes (bs : List Byte) (addr : Word) (s : State) (hn : bs.length ≤ 65536) (k : Nat)
    (h : k < bs.length) : readByte (writeBytes bs addr s) (addr + BitVec.ofNat 16 k) = bs[k] := by
  induction bs generalizing addr s k with
  | nil => cases h
  | cons b bs ih =>
    rw [List.length_cons] at hn h
    rw [writeBytes]
    cases k with
    | zero =>
      have hrest : ∀ j, j < bs.length → addr + 1 + BitVec.ofNat 16 j ≠ addr := fun j hj =>
        add_one_add_ofNat addr j ▸ add_ofNat_ne_self addr (Nat.succ_pos j) (by omega)
      rw [BitVec.add_zero addr, readByte_writeBytes_of_ne _ _ _ hrest, readByte_writeByte, if_pos rfl]
      rfl
    | succ k =>
      rw [← add_one_add_ofNat, ih _ _ (by omega) k (by omega)]
      rfl

/-- An image that does not cover the reset vector leaves its origin there. -/
theorem readWord_loadImage_resetVector {origin : Word} {image : List Byte} (s : State)
    (h : ∀ k, k < image.length → origin + BitVec.ofNat 16 k ≠ 0xFFFC ∧ origin + BitVec.ofNat 16 k ≠ 0xFFFD) :
    readWord (loadImage origin image s) resetVector = origin := by
  have hlo : readByte (loadImage origin image s) resetVector = readByte (writeWord s resetVector origin) resetVector :=
    readByte_writeBytes_of_ne _ _ _ fun k hk => (h k hk).1
  have hhi : readByte (loadImage origin image s) (resetVector + 1) =
      readByte (writeWord s resetVector origin) (resetVector + 1) :=
    readByte_writeBytes_of_ne _ _ _ fun k hk => (h k hk).2
  rw [readWord, hlo, hhi, ← readWord, readWord_writeWord]

/-! ## Interrupts that follow each other -/

/-- An interrupt entry pushes to page $01 alone, so the vectors stay what they were. -/
theorem readByte_of_entered {s t : State} {resume : Word} {b : Bool} {vector : Nat} (h : Entered s t resume b vector)
    {addr : Word} (ha : 512 ≤ addr.toNat) : readByte t addr = readByte s addr := by
  obtain ⟨-, -, -, -, -, -, -, -, -, hrest⟩ := h
  rw [stackSlot_zero, stackSlot_one, stackSlot_two] at hrest
  exact hrest addr (ne_stackAddr _ _ ha) (ne_stackAddr _ _ ha) (ne_stackAddr _ _ ha)

theorem i_of_entered {s t : State} {resume : Word} {b : Bool} {vector : Nat} (h : Entered s t resume b vector) :
    t.p.i = true := by
  obtain ⟨-, -, -, -, hp, -⟩ := h
  rw [hp]

theorem live_of_life_eq {s t : State} (h : t.life = s.life) (hl : Live s) : Live t := by
  unfold Live
  rwa [h]

/-- The NMI handler sets I, so a following IRQ is dropped (R224, decision D15). -/
theorem interrupt_after_nmi {s : State} (hl : Live s) :
    ∃ t, nonMaskableInterrupt s = .next t ∧ interrupt t = .next t := by
  obtain ⟨t, ht, hentry, -, hlife⟩ := nonMaskableInterrupt_enters hl
  exact ⟨t, ht, interrupt_of_i_set (live_of_life_eq hlife hl) (i_of_entered hentry)⟩

/-! ## The statements -/

/-- Settles O13: every host operation keeps the invariant, so every sequence of them does. -/
theorem hostOperationsKeepTheInvariant : Obligations.HostOperationsKeepTheInvariant :=
  fun ops _ h => session_keeps hostOp_keeps_inv ops h

/-- Settles O50: by what an IRQ does under each value of I, and what an NMI does. -/
theorem interruptRequestsEnterTheirHandlers : Obligations.InterruptRequestsEnterTheirHandlers :=
  fun _ hl => ⟨interrupt_of_i_set hl, interrupt_enters hl, nonMaskableInterrupt_enters hl⟩

/-- Settles O51: the IRQ after an NMI is masked. An NMI after an IRQ is a second entry, from the state the first left:
its vector lies outside the stack page, and the RTI that undoes it resumes at the IRQ handler. -/
theorem nmiMasksAFollowingIrqButNotTheOtherWayRound : Obligations.NmiMasksAFollowingIrqButNotTheOtherWayRound := by
  refine fun s hl => ⟨?_, fun hi => ?_⟩
  · obtain ⟨t, ht, hirq⟩ := interrupt_after_nmi hl
    simp only [session_cons, hostOp_nmi, hostOp_interrupt, ht, hirq, replyOf]
  · obtain ⟨t, ht, htentry, -, htlife⟩ := interrupt_enters hl hi
    obtain ⟨u, hu, huentry, -, -⟩ := nonMaskableInterrupt_enters (live_of_life_eq htlife hl)
    have hvec0 : memRead t.mem 0xFFFA = memRead s.mem 0xFFFA := readByte_of_entered htentry (addr := 0xFFFA) (by decide)
    have hvec1 : memRead t.mem 0xFFFB = memRead s.mem 0xFFFB := readByte_of_entered htentry (addr := 0xFFFB) (by decide)
    have hrti := exec_rti_of_entered huentry
    obtain ⟨-, -, -, htsp, -, htpc, -⟩ := htentry
    obtain ⟨-, -, -, husp, -, hupc, -⟩ := huentry
    refine ⟨t, u, _, ht, hu, ?pc, ?sp, htpc, hrti, rfl⟩
    case pc => rw [hupc, hvec0, hvec1]
    case sp =>
      rw [husp, htsp, BitVec.sub_sub]
      rfl

/-- Settles O5: the refusals of the operations, and the accessors' one rule with what each of them reads. -/
theorem refusalsAndAccessorsFollowTheLifecycle : Obligations.RefusalsAndAccessorsFollowTheLifecycle := by
  refine fun s => ⟨fun op hop => ⟨fun hl => hostOp_refused hop (.inl ⟨hl, rfl⟩), fun hl =>
    hostOp_refused hop (.inr ⟨hl, rfl⟩)⟩, fun hl => ?_, fun hl => ?_⟩
  · exact ⟨accessor_uninitialized _ hl, accessor_uninitialized _ hl, accessor_uninitialized _ hl,
      fun _ _ => accessor_uninitialized _ hl⟩
  · refine ⟨accessor_ok _ hl, accessor_ok _ hl, ?_, fun n addr =>
      ⟨_, accessor_ok _ hl, readBytes_length n addr s, getElem_readBytes n addr s⟩⟩
    rw [statusView, accessor_ok _ hl, pByte_eq_ofNat]

/-- Settles O10: two memories that are equal reset to equal states, and a reset leaves the memory as it is. -/
theorem resetDependsOnTheMemoryAlone : Obligations.ResetDependsOnTheMemoryAlone := by
  refine ⟨fun s t h => ⟨?_, rfl⟩, fun ops s => ?_⟩
  · rw [hostOp_reset, hostOp_reset, resetOp_congr h]
  · rw [session_append, session_append]
    exact resetOp_congr rfl

/-- Settles O60: the image leaves the vector alone, and the reset leaves the image alone. -/
theorem loadedImageStartsAtItsOrigin : Obligations.LoadedImageStartsAtItsOrigin :=
  fun origin image s hn hv => ⟨readWord_loadImage_resetVector s hv, rfl, readByte_writeBytes image origin _ hn⟩

/-- Settles O9: `PC` is the word at the vector; the other values are those of R240. -/
theorem resetLeavesTheStatedValues : Obligations.ResetLeavesTheStatedValues := by
  rintro s lo hi rfl rfl
  exact ⟨wordOf_eq_or _ _, rfl, rfl, rfl, rfl, ⟨rfl, rfl, rfl, rfl, rfl, rfl, rfl⟩, rfl, rfl⟩

/-- Settles O3: the step faults with the byte at the old `PC`, after one byte read. -/
theorem faultLeavesOnlyPcCyclesAndLife : Obligations.FaultLeavesOnlyPcCyclesAndLife := by
  intro s hl hu
  have hstep : step s = .fault (.unknownOpcode (readByte s s.pc) s.pc) := stepIn_of_unmapped hl rfl hu
  rw [hostOp_step, stepEvents_eq, hstep]
  exact ⟨rfl, rfl⟩

end Sys2Proof.Proofs
end
